-- ==== Sys2Proof/Word.lean ====
section
/-! DEFINITION. The two widths of the machine: bytes and 16-bit words (spec/00_scope.md R5, R6). -/

namespace Sys2Proof

/-- An 8-bit value: `A`, `X`, `Y`, `SP`, a memory byte, an opcode, an operand byte (`XLEN_DATA`, R5). -/
abbrev Byte := BitVec 8

/-- A 16-bit value: the program counter, an address the core forms, a word in memory (`XLEN_PC`, R5).
Addresses given to memory are natural numbers (R33), reached with `toNat`. -/
abbrev Word := BitVec 16

end Sys2Proof
end

