-- ==== Sys2Proof/Syntax.lean ====
section
/-! DEFINITION. The instructions, one constructor per row of spec/opcode_table.json. -/

namespace Sys2Proof

/-- The instructions of spec/30_encoding.md R55. The table has one row per opcode byte: four rows are instructions with
operands, the other 252 are the rows `UNHANDLED_00` to `UNHANDLED_FF` of the one Unhandled instruction (R58, R95; log 13). -/
inductive Instr where
  /-- LDA immediate, bytes `A9 b1` (R85). -/
  | ldaIm (b1 : Byte)
  /-- LDA zero-page, bytes `A5 b1` (R86). -/
  | ldaZp (b1 : Byte)
  /-- LDA zero-page,X, bytes `B5 b1` (R87). -/
  | ldaZpx (b1 : Byte)
  /-- JSR, bytes `20 t[7:0] t[15:8]` (R90). -/
  | jsr (t : Word)
  | unhandled00
  | unhandled01
  | unhandled02
  | unhandled03
  | unhandled04
  | unhandled05
  | unhandled06
  | unhandled07
  | unhandled08
  | unhandled09
  | unhandled0A
  | unhandled0B
  | unhandled0C
  | unhandled0D
  | unhandled0E
  | unhandled0F
  | unhandled10
  | unhandled11
  | unhandled12
  | unhandled13
  | unhandled14
  | unhandled15
  | unhandled16
  | unhandled17
  | unhandled18
  | unhandled19
  | unhandled1A
  | unhandled1B
  | unhandled1C
  | unhandled1D
  | unhandled1E
  | unhandled1F
  | unhandled21
  | unhandled22
  | unhandled23
  | unhandled24
  | unhandled25
  | unhandled26
  | unhandled27
  | unhandled28
  | unhandled29
  | unhandled2A
  | unhandled2B
  | unhandled2C
  | unhandled2D
  | unhandled2E
  | unhandled2F
  | unhandled30
  | unhandled31
  | unhandled32
  | unhandled33
  | unhandled34
  | unhandled35
  | unhandled36
  | unhandled37
  | unhandled38
  | unhandled39
  | unhandled3A
  | unhandled3B
  | unhandled3C
  | unhandled3D
  | unhandled3E
  | unhandled3F
  | unhandled40
  | unhandled41
  | unhandled42
  | unhandled43
  | unhandled44
  | unhandled45
  | unhandled46
  | unhandled47
  | unhandled48
  | unhandled49
  | unhandled4A
  | unhandled4B
  | unhandled4C
  | unhandled4D
  | unhandled4E
  | unhandled4F
  | unhandled50
  | unhandled51
  | unhandled52
  | unhandled53
  | unhandled54
  | unhandled55
  | unhandled56
  | unhandled57
  | unhandled58
  | unhandled59
  | unhandled5A
  | unhandled5B
  | unhandled5C
  | unhandled5D
  | unhandled5E
  | unhandled5F
  | unhandled60
  | unhandled61
  | unhandled62
  | unhandled63
  | unhandled64
  | unhandled65
  | unhandled66
  | unhandled67
  | unhandled68
  | unhandled69
  | unhandled6A
  | unhandled6B
  | unhandled6C
  | unhandled6D
  | unhandled6E
  | unhandled6F
  | unhandled70
  | unhandled71
  | unhandled72
  | unhandled73
  | unhandled74
  | unhandled75
  | unhandled76
  | unhandled77
  | unhandled78
  | unhandled79
  | unhandled7A
  | unhandled7B
  | unhandled7C
  | unhandled7D
  | unhandled7E
  | unhandled7F
  | unhandled80
  | unhandled81
  | unhandled82
  | unhandled83
  | unhandled84
  | unhandled85
  | unhandled86
  | unhandled87
  | unhandled88
  | unhandled89
  | unhandled8A
  | unhandled8B
  | unhandled8C
  | unhandled8D
  | unhandled8E
  | unhandled8F
  | unhandled90
  | unhandled91
  | unhandled92
  | unhandled93
  | unhandled94
  | unhandled95
  | unhandled96
  | unhandled97
  | unhandled98
  | unhandled99
  | unhandled9A
  | unhandled9B
  | unhandled9C
  | unhandled9D
  | unhandled9E
  | unhandled9F
  | unhandledA0
  | unhandledA1
  | unhandledA2
  | unhandledA3
  | unhandledA4
  | unhandledA6
  | unhandledA7
  | unhandledA8
  | unhandledAA
  | unhandledAB
  | unhandledAC
  | unhandledAD
  | unhandledAE
  | unhandledAF
  | unhandledB0
  | unhandledB1
  | unhandledB2
  | unhandledB3
  | unhandledB4
  | unhandledB6
  | unhandledB7
  | unhandledB8
  | unhandledB9
  | unhandledBA
  | unhandledBB
  | unhandledBC
  | unhandledBD
  | unhandledBE
  | unhandledBF
  | unhandledC0
  | unhandledC1
  | unhandledC2
  | unhandledC3
  | unhandledC4
  | unhandledC5
  | unhandledC6
  | unhandledC7
  | unhandledC8
  | unhandledC9
  | unhandledCA
  | unhandledCB
  | unhandledCC
  | unhandledCD
  | unhandledCE
  | unhandledCF
  | unhandledD0
  | unhandledD1
  | unhandledD2
  | unhandledD3
  | unhandledD4
  | unhandledD5
  | unhandledD6
  | unhandledD7
  | unhandledD8
  | unhandledD9
  | unhandledDA
  | unhandledDB
  | unhandledDC
  | unhandledDD
  | unhandledDE
  | unhandledDF
  | unhandledE0
  | unhandledE1
  | unhandledE2
  | unhandledE3
  | unhandledE4
  | unhandledE5
  | unhandledE6
  | unhandledE7
  | unhandledE8
  | unhandledE9
  | unhandledEA
  | unhandledEB
  | unhandledEC
  | unhandledED
  | unhandledEE
  | unhandledEF
  | unhandledF0
  | unhandledF1
  | unhandledF2
  | unhandledF3
  | unhandledF4
  | unhandledF5
  | unhandledF6
  | unhandledF7
  | unhandledF8
  | unhandledF9
  | unhandledFA
  | unhandledFB
  | unhandledFC
  | unhandledFD
  | unhandledFE
  | unhandledFF
  deriving DecidableEq, Repr

end Sys2Proof
end

