-- ==== Sys2Proof/Decode.lean ====
section
/-! DEFINITION. The decoder and, after it, the encoder (spec/30_encoding.md), with the byte-order helpers they use. -/

namespace Sys2Proof

/-- `v[7:0]` of a word (R6). -/
def lowByte (w : Word) : Byte := w.extractLsb' 0 8

/-- `v[15:8]` of a word (R6). -/
def highByte (w : Word) : Byte := w.extractLsb' 8 8

/-- `{hi, lo}`, the word with `hi` in bits 15 to 8 (R6). -/
def wordOf (hi lo : Byte) : Word := hi ++ lo

/-! ### The five decoder results, formats and cycle costs -/

/-- The five results of the decoder function (R55). -/
inductive OpClass where
  | ldaIm | ldaZp | ldaZpx | jsr | unhandled
  deriving DecidableEq, Repr

/-- The three instruction formats (R50). -/
inductive Format where
  /-- One opcode byte. -/
  | op
  /-- An opcode byte and one operand byte. -/
  | opB
  /-- An opcode byte and a little-endian operand word. -/
  | opW
  deriving DecidableEq, Repr

/-- `Decode(op)` as R55 writes it. -/
def decodeClass (op : Byte) : OpClass :=
  if op = 0xA9 then .ldaIm
  else if op = 0xA5 then .ldaZp
  else if op = 0xB5 then .ldaZpx
  else if op = 0x20 then .jsr
  else .unhandled

/-- The format column of R55. -/
def OpClass.format : OpClass → Format
  | .ldaIm | .ldaZp | .ldaZpx => .opB
  | .jsr => .opW
  | .unhandled => .op

/-- The cycle cost column of R55. It decrements nothing: the primitives do (R56). -/
def OpClass.cycles : OpClass → Int
  | .ldaIm => 2
  | .ldaZp => 3
  | .ldaZpx => 4
  | .jsr => 6
  | .unhandled => 1

/-- The operand bytes a format has after the opcode (R50, R51). -/
def Format.operandBytes : Format → Nat
  | .op => 0
  | .opB => 1
  | .opW => 2

/-- The length column of R55: the opcode alone tells it (R59). -/
def opLength (op : Byte) : Nat := 1 + (decodeClass op).format.operandBytes

/-! ### The decoder, one row of sixteen opcodes at a time -/

/-- The opcodes 0x00 to 0x0F (R55). -/
def decodeRow0 (lo : Nat) : Instr :=
  match lo with
  | 0 => .unhandled00
  | 1 => .unhandled01
  | 2 => .unhandled02
  | 3 => .unhandled03
  | 4 => .unhandled04
  | 5 => .unhandled05
  | 6 => .unhandled06
  | 7 => .unhandled07
  | 8 => .unhandled08
  | 9 => .unhandled09
  | 10 => .unhandled0A
  | 11 => .unhandled0B
  | 12 => .unhandled0C
  | 13 => .unhandled0D
  | 14 => .unhandled0E
  | _ => .unhandled0F

/-- The opcodes 0x10 to 0x1F (R55). -/
def decodeRow1 (lo : Nat) : Instr :=
  match lo with
  | 0 => .unhandled10
  | 1 => .unhandled11
  | 2 => .unhandled12
  | 3 => .unhandled13
  | 4 => .unhandled14
  | 5 => .unhandled15
  | 6 => .unhandled16
  | 7 => .unhandled17
  | 8 => .unhandled18
  | 9 => .unhandled19
  | 10 => .unhandled1A
  | 11 => .unhandled1B
  | 12 => .unhandled1C
  | 13 => .unhandled1D
  | 14 => .unhandled1E
  | _ => .unhandled1F

/-- The opcodes 0x20 to 0x2F (R55). -/
def decodeRow2 (lo : Nat) (b1 b2 : Byte) : Instr :=
  match lo with
  | 0 => .jsr (wordOf b2 b1)
  | 1 => .unhandled21
  | 2 => .unhandled22
  | 3 => .unhandled23
  | 4 => .unhandled24
  | 5 => .unhandled25
  | 6 => .unhandled26
  | 7 => .unhandled27
  | 8 => .unhandled28
  | 9 => .unhandled29
  | 10 => .unhandled2A
  | 11 => .unhandled2B
  | 12 => .unhandled2C
  | 13 => .unhandled2D
  | 14 => .unhandled2E
  | _ => .unhandled2F

/-- The opcodes 0x30 to 0x3F (R55). -/
def decodeRow3 (lo : Nat) : Instr :=
  match lo with
  | 0 => .unhandled30
  | 1 => .unhandled31
  | 2 => .unhandled32
  | 3 => .unhandled33
  | 4 => .unhandled34
  | 5 => .unhandled35
  | 6 => .unhandled36
  | 7 => .unhandled37
  | 8 => .unhandled38
  | 9 => .unhandled39
  | 10 => .unhandled3A
  | 11 => .unhandled3B
  | 12 => .unhandled3C
  | 13 => .unhandled3D
  | 14 => .unhandled3E
  | _ => .unhandled3F

/-- The opcodes 0x40 to 0x4F (R55). -/
def decodeRow4 (lo : Nat) : Instr :=
  match lo with
  | 0 => .unhandled40
  | 1 => .unhandled41
  | 2 => .unhandled42
  | 3 => .unhandled43
  | 4 => .unhandled44
  | 5 => .unhandled45
  | 6 => .unhandled46
  | 7 => .unhandled47
  | 8 => .unhandled48
  | 9 => .unhandled49
  | 10 => .unhandled4A
  | 11 => .unhandled4B
  | 12 => .unhandled4C
  | 13 => .unhandled4D
  | 14 => .unhandled4E
  | _ => .unhandled4F

/-- The opcodes 0x50 to 0x5F (R55). -/
def decodeRow5 (lo : Nat) : Instr :=
  match lo with
  | 0 => .unhandled50
  | 1 => .unhandled51
  | 2 => .unhandled52
  | 3 => .unhandled53
  | 4 => .unhandled54
  | 5 => .unhandled55
  | 6 => .unhandled56
  | 7 => .unhandled57
  | 8 => .unhandled58
  | 9 => .unhandled59
  | 10 => .unhandled5A
  | 11 => .unhandled5B
  | 12 => .unhandled5C
  | 13 => .unhandled5D
  | 14 => .unhandled5E
  | _ => .unhandled5F

/-- The opcodes 0x60 to 0x6F (R55). -/
def decodeRow6 (lo : Nat) : Instr :=
  match lo with
  | 0 => .unhandled60
  | 1 => .unhandled61
  | 2 => .unhandled62
  | 3 => .unhandled63
  | 4 => .unhandled64
  | 5 => .unhandled65
  | 6 => .unhandled66
  | 7 => .unhandled67
  | 8 => .unhandled68
  | 9 => .unhandled69
  | 10 => .unhandled6A
  | 11 => .unhandled6B
  | 12 => .unhandled6C
  | 13 => .unhandled6D
  | 14 => .unhandled6E
  | _ => .unhandled6F

/-- The opcodes 0x70 to 0x7F (R55). -/
def decodeRow7 (lo : Nat) : Instr :=
  match lo with
  | 0 => .unhandled70
  | 1 => .unhandled71
  | 2 => .unhandled72
  | 3 => .unhandled73
  | 4 => .unhandled74
  | 5 => .unhandled75
  | 6 => .unhandled76
  | 7 => .unhandled77
  | 8 => .unhandled78
  | 9 => .unhandled79
  | 10 => .unhandled7A
  | 11 => .unhandled7B
  | 12 => .unhandled7C
  | 13 => .unhandled7D
  | 14 => .unhandled7E
  | _ => .unhandled7F

/-- The opcodes 0x80 to 0x8F (R55). -/
def decodeRow8 (lo : Nat) : Instr :=
  match lo with
  | 0 => .unhandled80
  | 1 => .unhandled81
  | 2 => .unhandled82
  | 3 => .unhandled83
  | 4 => .unhandled84
  | 5 => .unhandled85
  | 6 => .unhandled86
  | 7 => .unhandled87
  | 8 => .unhandled88
  | 9 => .unhandled89
  | 10 => .unhandled8A
  | 11 => .unhandled8B
  | 12 => .unhandled8C
  | 13 => .unhandled8D
  | 14 => .unhandled8E
  | _ => .unhandled8F

/-- The opcodes 0x90 to 0x9F (R55). -/
def decodeRow9 (lo : Nat) : Instr :=
  match lo with
  | 0 => .unhandled90
  | 1 => .unhandled91
  | 2 => .unhandled92
  | 3 => .unhandled93
  | 4 => .unhandled94
  | 5 => .unhandled95
  | 6 => .unhandled96
  | 7 => .unhandled97
  | 8 => .unhandled98
  | 9 => .unhandled99
  | 10 => .unhandled9A
  | 11 => .unhandled9B
  | 12 => .unhandled9C
  | 13 => .unhandled9D
  | 14 => .unhandled9E
  | _ => .unhandled9F

/-- The opcodes 0xA0 to 0xAF (R55). -/
def decodeRowA (lo : Nat) (b1 : Byte) : Instr :=
  match lo with
  | 0 => .unhandledA0
  | 1 => .unhandledA1
  | 2 => .unhandledA2
  | 3 => .unhandledA3
  | 4 => .unhandledA4
  | 5 => .ldaZp b1
  | 6 => .unhandledA6
  | 7 => .unhandledA7
  | 8 => .unhandledA8
  | 9 => .ldaIm b1
  | 10 => .unhandledAA
  | 11 => .unhandledAB
  | 12 => .unhandledAC
  | 13 => .unhandledAD
  | 14 => .unhandledAE
  | _ => .unhandledAF

/-- The opcodes 0xB0 to 0xBF (R55). -/
def decodeRowB (lo : Nat) (b1 : Byte) : Instr :=
  match lo with
  | 0 => .unhandledB0
  | 1 => .unhandledB1
  | 2 => .unhandledB2
  | 3 => .unhandledB3
  | 4 => .unhandledB4
  | 5 => .ldaZpx b1
  | 6 => .unhandledB6
  | 7 => .unhandledB7
  | 8 => .unhandledB8
  | 9 => .unhandledB9
  | 10 => .unhandledBA
  | 11 => .unhandledBB
  | 12 => .unhandledBC
  | 13 => .unhandledBD
  | 14 => .unhandledBE
  | _ => .unhandledBF

/-- The opcodes 0xC0 to 0xCF (R55). -/
def decodeRowC (lo : Nat) : Instr :=
  match lo with
  | 0 => .unhandledC0
  | 1 => .unhandledC1
  | 2 => .unhandledC2
  | 3 => .unhandledC3
  | 4 => .unhandledC4
  | 5 => .unhandledC5
  | 6 => .unhandledC6
  | 7 => .unhandledC7
  | 8 => .unhandledC8
  | 9 => .unhandledC9
  | 10 => .unhandledCA
  | 11 => .unhandledCB
  | 12 => .unhandledCC
  | 13 => .unhandledCD
  | 14 => .unhandledCE
  | _ => .unhandledCF

/-- The opcodes 0xD0 to 0xDF (R55). -/
def decodeRowD (lo : Nat) : Instr :=
  match lo with
  | 0 => .unhandledD0
  | 1 => .unhandledD1
  | 2 => .unhandledD2
  | 3 => .unhandledD3
  | 4 => .unhandledD4
  | 5 => .unhandledD5
  | 6 => .unhandledD6
  | 7 => .unhandledD7
  | 8 => .unhandledD8
  | 9 => .unhandledD9
  | 10 => .unhandledDA
  | 11 => .unhandledDB
  | 12 => .unhandledDC
  | 13 => .unhandledDD
  | 14 => .unhandledDE
  | _ => .unhandledDF

/-- The opcodes 0xE0 to 0xEF (R55). -/
def decodeRowE (lo : Nat) : Instr :=
  match lo with
  | 0 => .unhandledE0
  | 1 => .unhandledE1
  | 2 => .unhandledE2
  | 3 => .unhandledE3
  | 4 => .unhandledE4
  | 5 => .unhandledE5
  | 6 => .unhandledE6
  | 7 => .unhandledE7
  | 8 => .unhandledE8
  | 9 => .unhandledE9
  | 10 => .unhandledEA
  | 11 => .unhandledEB
  | 12 => .unhandledEC
  | 13 => .unhandledED
  | 14 => .unhandledEE
  | _ => .unhandledEF

/-- The opcodes 0xF0 to 0xFF (R55). -/
def decodeRowF (lo : Nat) : Instr :=
  match lo with
  | 0 => .unhandledF0
  | 1 => .unhandledF1
  | 2 => .unhandledF2
  | 3 => .unhandledF3
  | 4 => .unhandledF4
  | 5 => .unhandledF5
  | 6 => .unhandledF6
  | 7 => .unhandledF7
  | 8 => .unhandledF8
  | 9 => .unhandledF9
  | 10 => .unhandledFA
  | 11 => .unhandledFB
  | 12 => .unhandledFC
  | 13 => .unhandledFD
  | 14 => .unhandledFE
  | _ => .unhandledFF

/-- The instruction whose opcode byte is `op` and whose next two bytes are `b1` and `b2`, used as far as its format goes
(R50 to R52, R55). Total: every opcode byte has a meaning (R58). -/
def decodeOp (op b1 b2 : Byte) : Instr :=
  match op.toNat / 16 with
  | 0 => decodeRow0 (op.toNat % 16)
  | 1 => decodeRow1 (op.toNat % 16)
  | 2 => decodeRow2 (op.toNat % 16) b1 b2
  | 3 => decodeRow3 (op.toNat % 16)
  | 4 => decodeRow4 (op.toNat % 16)
  | 5 => decodeRow5 (op.toNat % 16)
  | 6 => decodeRow6 (op.toNat % 16)
  | 7 => decodeRow7 (op.toNat % 16)
  | 8 => decodeRow8 (op.toNat % 16)
  | 9 => decodeRow9 (op.toNat % 16)
  | 10 => decodeRowA (op.toNat % 16) b1
  | 11 => decodeRowB (op.toNat % 16) b1
  | 12 => decodeRowC (op.toNat % 16)
  | 13 => decodeRowD (op.toNat % 16)
  | 14 => decodeRowE (op.toNat % 16)
  | _ => decodeRowF (op.toNat % 16)

/-- Why a list of bytes holds no whole instruction at its front. -/
inductive DecodeError where
  /-- There is no opcode byte. -/
  | empty
  /-- The operand bytes the opcode's format asks for are not all there. -/
  | truncated (op : Byte)
  deriving DecidableEq, Repr

/-- The instruction at the front of a list of bytes, and the bytes after it. -/
def decode : List Byte → Except DecodeError (Instr × List Byte)
  | [] => .error .empty
  | op :: rest =>
    match (decodeClass op).format, rest with
    | .op, rest => .ok (decodeOp op 0 0, rest)
    | .opB, b1 :: rest => .ok (decodeOp op b1 0, rest)
    | .opW, b1 :: b2 :: rest => .ok (decodeOp op b1 b2, rest)
    | _, _ => .error (.truncated op)

/-! ### The encoder -/

/-- The opcode byte of an instruction (R55). -/
def Instr.opcode : Instr → Byte
  | .ldaIm _ => 0xA9
  | .ldaZp _ => 0xA5
  | .ldaZpx _ => 0xB5
  | .jsr _ => 0x20
  | .unhandled00 => 0x00
  | .unhandled01 => 0x01
  | .unhandled02 => 0x02
  | .unhandled03 => 0x03
  | .unhandled04 => 0x04
  | .unhandled05 => 0x05
  | .unhandled06 => 0x06
  | .unhandled07 => 0x07
  | .unhandled08 => 0x08
  | .unhandled09 => 0x09
  | .unhandled0A => 0x0A
  | .unhandled0B => 0x0B
  | .unhandled0C => 0x0C
  | .unhandled0D => 0x0D
  | .unhandled0E => 0x0E
  | .unhandled0F => 0x0F
  | .unhandled10 => 0x10
  | .unhandled11 => 0x11
  | .unhandled12 => 0x12
  | .unhandled13 => 0x13
  | .unhandled14 => 0x14
  | .unhandled15 => 0x15
  | .unhandled16 => 0x16
  | .unhandled17 => 0x17
  | .unhandled18 => 0x18
  | .unhandled19 => 0x19
  | .unhandled1A => 0x1A
  | .unhandled1B => 0x1B
  | .unhandled1C => 0x1C
  | .unhandled1D => 0x1D
  | .unhandled1E => 0x1E
  | .unhandled1F => 0x1F
  | .unhandled21 => 0x21
  | .unhandled22 => 0x22
  | .unhandled23 => 0x23
  | .unhandled24 => 0x24
  | .unhandled25 => 0x25
  | .unhandled26 => 0x26
  | .unhandled27 => 0x27
  | .unhandled28 => 0x28
  | .unhandled29 => 0x29
  | .unhandled2A => 0x2A
  | .unhandled2B => 0x2B
  | .unhandled2C => 0x2C
  | .unhandled2D => 0x2D
  | .unhandled2E => 0x2E
  | .unhandled2F => 0x2F
  | .unhandled30 => 0x30
  | .unhandled31 => 0x31
  | .unhandled32 => 0x32
  | .unhandled33 => 0x33
  | .unhandled34 => 0x34
  | .unhandled35 => 0x35
  | .unhandled36 => 0x36
  | .unhandled37 => 0x37
  | .unhandled38 => 0x38
  | .unhandled39 => 0x39
  | .unhandled3A => 0x3A
  | .unhandled3B => 0x3B
  | .unhandled3C => 0x3C
  | .unhandled3D => 0x3D
  | .unhandled3E => 0x3E
  | .unhandled3F => 0x3F
  | .unhandled40 => 0x40
  | .unhandled41 => 0x41
  | .unhandled42 => 0x42
  | .unhandled43 => 0x43
  | .unhandled44 => 0x44
  | .unhandled45 => 0x45
  | .unhandled46 => 0x46
  | .unhandled47 => 0x47
  | .unhandled48 => 0x48
  | .unhandled49 => 0x49
  | .unhandled4A => 0x4A
  | .unhandled4B => 0x4B
  | .unhandled4C => 0x4C
  | .unhandled4D => 0x4D
  | .unhandled4E => 0x4E
  | .unhandled4F => 0x4F
  | .unhandled50 => 0x50
  | .unhandled51 => 0x51
  | .unhandled52 => 0x52
  | .unhandled53 => 0x53
  | .unhandled54 => 0x54
  | .unhandled55 => 0x55
  | .unhandled56 => 0x56
  | .unhandled57 => 0x57
  | .unhandled58 => 0x58
  | .unhandled59 => 0x59
  | .unhandled5A => 0x5A
  | .unhandled5B => 0x5B
  | .unhandled5C => 0x5C
  | .unhandled5D => 0x5D
  | .unhandled5E => 0x5E
  | .unhandled5F => 0x5F
  | .unhandled60 => 0x60
  | .unhandled61 => 0x61
  | .unhandled62 => 0x62
  | .unhandled63 => 0x63
  | .unhandled64 => 0x64
  | .unhandled65 => 0x65
  | .unhandled66 => 0x66
  | .unhandled67 => 0x67
  | .unhandled68 => 0x68
  | .unhandled69 => 0x69
  | .unhandled6A => 0x6A
  | .unhandled6B => 0x6B
  | .unhandled6C => 0x6C
  | .unhandled6D => 0x6D
  | .unhandled6E => 0x6E
  | .unhandled6F => 0x6F
  | .unhandled70 => 0x70
  | .unhandled71 => 0x71
  | .unhandled72 => 0x72
  | .unhandled73 => 0x73
  | .unhandled74 => 0x74
  | .unhandled75 => 0x75
  | .unhandled76 => 0x76
  | .unhandled77 => 0x77
  | .unhandled78 => 0x78
  | .unhandled79 => 0x79
  | .unhandled7A => 0x7A
  | .unhandled7B => 0x7B
  | .unhandled7C => 0x7C
  | .unhandled7D => 0x7D
  | .unhandled7E => 0x7E
  | .unhandled7F => 0x7F
  | .unhandled80 => 0x80
  | .unhandled81 => 0x81
  | .unhandled82 => 0x82
  | .unhandled83 => 0x83
  | .unhandled84 => 0x84
  | .unhandled85 => 0x85
  | .unhandled86 => 0x86
  | .unhandled87 => 0x87
  | .unhandled88 => 0x88
  | .unhandled89 => 0x89
  | .unhandled8A => 0x8A
  | .unhandled8B => 0x8B
  | .unhandled8C => 0x8C
  | .unhandled8D => 0x8D
  | .unhandled8E => 0x8E
  | .unhandled8F => 0x8F
  | .unhandled90 => 0x90
  | .unhandled91 => 0x91
  | .unhandled92 => 0x92
  | .unhandled93 => 0x93
  | .unhandled94 => 0x94
  | .unhandled95 => 0x95
  | .unhandled96 => 0x96
  | .unhandled97 => 0x97
  | .unhandled98 => 0x98
  | .unhandled99 => 0x99
  | .unhandled9A => 0x9A
  | .unhandled9B => 0x9B
  | .unhandled9C => 0x9C
  | .unhandled9D => 0x9D
  | .unhandled9E => 0x9E
  | .unhandled9F => 0x9F
  | .unhandledA0 => 0xA0
  | .unhandledA1 => 0xA1
  | .unhandledA2 => 0xA2
  | .unhandledA3 => 0xA3
  | .unhandledA4 => 0xA4
  | .unhandledA6 => 0xA6
  | .unhandledA7 => 0xA7
  | .unhandledA8 => 0xA8
  | .unhandledAA => 0xAA
  | .unhandledAB => 0xAB
  | .unhandledAC => 0xAC
  | .unhandledAD => 0xAD
  | .unhandledAE => 0xAE
  | .unhandledAF => 0xAF
  | .unhandledB0 => 0xB0
  | .unhandledB1 => 0xB1
  | .unhandledB2 => 0xB2
  | .unhandledB3 => 0xB3
  | .unhandledB4 => 0xB4
  | .unhandledB6 => 0xB6
  | .unhandledB7 => 0xB7
  | .unhandledB8 => 0xB8
  | .unhandledB9 => 0xB9
  | .unhandledBA => 0xBA
  | .unhandledBB => 0xBB
  | .unhandledBC => 0xBC
  | .unhandledBD => 0xBD
  | .unhandledBE => 0xBE
  | .unhandledBF => 0xBF
  | .unhandledC0 => 0xC0
  | .unhandledC1 => 0xC1
  | .unhandledC2 => 0xC2
  | .unhandledC3 => 0xC3
  | .unhandledC4 => 0xC4
  | .unhandledC5 => 0xC5
  | .unhandledC6 => 0xC6
  | .unhandledC7 => 0xC7
  | .unhandledC8 => 0xC8
  | .unhandledC9 => 0xC9
  | .unhandledCA => 0xCA
  | .unhandledCB => 0xCB
  | .unhandledCC => 0xCC
  | .unhandledCD => 0xCD
  | .unhandledCE => 0xCE
  | .unhandledCF => 0xCF
  | .unhandledD0 => 0xD0
  | .unhandledD1 => 0xD1
  | .unhandledD2 => 0xD2
  | .unhandledD3 => 0xD3
  | .unhandledD4 => 0xD4
  | .unhandledD5 => 0xD5
  | .unhandledD6 => 0xD6
  | .unhandledD7 => 0xD7
  | .unhandledD8 => 0xD8
  | .unhandledD9 => 0xD9
  | .unhandledDA => 0xDA
  | .unhandledDB => 0xDB
  | .unhandledDC => 0xDC
  | .unhandledDD => 0xDD
  | .unhandledDE => 0xDE
  | .unhandledDF => 0xDF
  | .unhandledE0 => 0xE0
  | .unhandledE1 => 0xE1
  | .unhandledE2 => 0xE2
  | .unhandledE3 => 0xE3
  | .unhandledE4 => 0xE4
  | .unhandledE5 => 0xE5
  | .unhandledE6 => 0xE6
  | .unhandledE7 => 0xE7
  | .unhandledE8 => 0xE8
  | .unhandledE9 => 0xE9
  | .unhandledEA => 0xEA
  | .unhandledEB => 0xEB
  | .unhandledEC => 0xEC
  | .unhandledED => 0xED
  | .unhandledEE => 0xEE
  | .unhandledEF => 0xEF
  | .unhandledF0 => 0xF0
  | .unhandledF1 => 0xF1
  | .unhandledF2 => 0xF2
  | .unhandledF3 => 0xF3
  | .unhandledF4 => 0xF4
  | .unhandledF5 => 0xF5
  | .unhandledF6 => 0xF6
  | .unhandledF7 => 0xF7
  | .unhandledF8 => 0xF8
  | .unhandledF9 => 0xF9
  | .unhandledFA => 0xFA
  | .unhandledFB => 0xFB
  | .unhandledFC => 0xFC
  | .unhandledFD => 0xFD
  | .unhandledFE => 0xFE
  | .unhandledFF => 0xFF

/-- The operand bytes of an instruction, in the order they lie in memory (R50, R52). -/
def Instr.operands : Instr → List Byte
  | .ldaIm b1 | .ldaZp b1 | .ldaZpx b1 => [b1]
  | .jsr t => [lowByte t, highByte t]
  | _ => []

/-- The bytes of an instruction, lowest address first (R50). -/
def encode (i : Instr) : List Byte := i.opcode :: i.operands

/-- An instruction's length in bytes (R55). -/
def Instr.lengthBytes (i : Instr) : Nat := opLength i.opcode

/-- An instruction's cycle cost, as the table of R55 has it. -/
def Instr.cycles (i : Instr) : Int := (decodeClass i.opcode).cycles

/-! ### Table words -/

/-- The longest instruction is JSR's three bytes (R50). -/
def longestInstr : Nat := 3

/-- Byte `k` of a table word whose bits from `nbits` on are zero: bits `8k+7` to `8k`, the first byte lowest. -/
def tableByte (nbits w k : Nat) : Byte := BitVec.ofNat 8 (w % 2 ^ nbits / 2 ^ (8 * k))

/-- A table word laid out as memory holds it, filled with zeros up to the longest instruction. -/
def tableBytes (nbits w : Nat) : List Byte := (List.range longestInstr).map (tableByte nbits w)

/-- The instruction the decoder reads from a table word. -/
def decodeTableWord (nbits w : Nat) : Option Instr :=
  match decode (tableBytes nbits w) with
  | .ok (i, _) => some i
  | .error _ => none

end Sys2Proof
end

