-- ==== Sys2Proof/Config.lean ====
section
/-! DEFINITION. What is fixed for this machine (the parameters of spec/00_scope.md R5) and the one free value. -/

namespace Sys2Proof

/-- `MAX_MEM`, the number of bytes in memory (R5, R30; 92_eei_decisions.md D1; log 11). -/
def Config.maxMem : Nat := 65536

/-- `STACK_BASE`, added to the zero-extended stack pointer (R5, R77). The value is the spec's decision D5 (log 8). -/
def Config.stackBase : Nat := 0x0000

/-- `JSR_SP_STEP`, how far JSR moves `SP` (R5, R90). The value is the spec's decision D6 (log 8). -/
def Config.jsrSpStep : Byte := 1

/-- What a byte of memory that nothing has written since reset reads as (R24, R34: reset zeroes every byte). -/
def Config.unlisted : Byte := 0x00

/-- The budget `State.reset` loads into `CYC`. DESIGN CHOICE (log 1): the spec leaves `BUDGET` open, an argument of
reset (R5, D9); 9 is the one budget the source itself names (95_test_vectors.md S1). `State.resetWith` takes any. -/
def Config.budget : Int := 9

/-- A free value (93_implementation_defined.md U3; log 5): does the low byte land when a word write fails on its second
byte? Its arguments are the byte that was there, the word, and `CYC` at the write. Nothing constrains it. -/
opaque Config.lowByteLands : Byte → Word → Int → Bool

end Sys2Proof
end

