-- ==== Sys2Proof/WellFormed.lean ====
section
/-! DEFINITION. When plain data means something: the canonical form of memory. An `Instr` needs no check of its own:
every operand of every constructor has exactly the width its encoding gives it (spec/30_encoding.md R50, R52). -/

namespace Sys2Proof.Machine

/-- Memory as plain data: the bytes that differ from `Config.unlisted`, by address (log 2). -/
abbrev Memory := List Host.Cell

/-- A list of cells may be listed after an entry at an address below `lo`: addresses rise strictly from `lo` on, every
address exists (R30), and no entry equals what an unlisted address reads as. -/
def Memory.wfFrom : Nat → Memory → Bool
  | _, [] => true
  | lo, (k, b) :: m => decide (lo ≤ k) && decide (k < Config.maxMem) && decide (b ≠ Config.unlisted) && Memory.wfFrom (k + 1) m

/-- The canonical form of memory. -/
def Memory.wf (m : Memory) : Bool := Memory.wfFrom 0 m

end Sys2Proof.Machine
end

