-- ==== Sys2Proof/Machine/State.lean ====
section
/-! DEFINITION. The state of the machine, its run states, what can stop it, and reset (spec/10_state.md). -/

namespace Sys2Proof.Machine

/-- The failures a memory access can report (R100). -/
inductive Fault where
  /-- An access at an address `>= MAX_MEM`, raised by the memory address decoder (R30). Inside a step it sets the `FAULT`
  latch, which is a next state (R101; log 3), so no step answers with it. Safe: the core cannot cause it (R102). -/
  | outOfRange (addr : Nat)
  deriving DecidableEq, Repr

/-- Why an operation has no meaning in the model. -/
inductive Refusal where
  /-- An instruction without a meaning. Raised by no arm of `exec`: every instruction is modelled. Safe. -/
  | notModelled (mnemonic : String)
  /-- A host operation other than reset before the first reset, where the state has no value (R25, U1; log 7). Raised by
  `Session.perform`. Safe. -/
  | beforeReset
  /-- A host load of a byte at an address `>= MAX_MEM`, the first such address (R113, U4; log 10). Raised by `hostLoad`.
  Safe. -/
  | loadOutOfRange (addr : Nat)
  deriving DecidableEq, Repr

/-- The events of the diagnostic channel (R20, R103). What an event carries is the spec's decision D12 (log 12). -/
inductive DiagEvent where
  /-- The opcode byte and the address it was fetched from. -/
  | unhandledOpcode (op : Byte) (addr : Word)
  deriving DecidableEq, Repr

/-- The run state (R18). -/
inductive RunState where
  | running | halted
  | faulted (f : Fault)
  deriving DecidableEq, Repr

/-- The whole state of the machine after a reset (10_state.md section 1). -/
structure State where
  /-- The accumulator `A` (R10). -/
  a : Byte
  /-- The index register `X` (R10). -/
  x : Byte
  /-- The index register `Y` (R10). -/
  y : Byte
  /-- The stack pointer `SP` (R12). -/
  sp : Byte
  /-- The program counter `PC` (R13). -/
  pc : Word
  /-- Carry (R14). -/
  flagC : Bool
  /-- Zero (R14). -/
  flagZ : Bool
  /-- InterruptDisable (R14). -/
  flagI : Bool
  /-- Decimal (R14). -/
  flagD : Bool
  /-- Break (R14). -/
  flagB : Bool
  /-- Overflow (R14). -/
  flagV : Bool
  /-- Negative (R14). -/
  flagN : Bool
  /-- The remaining-cycle counter `CYC`, a mathematical integer (R17; log 12). -/
  cyc : Int
  /-- The fault latch `FAULT` (R19). -/
  fault : Option Fault
  /-- The diagnostic trace `DIAG`, oldest event first (R20). -/
  diag : List DiagEvent
  /-- Memory (R22). -/
  mem : Memory
  deriving DecidableEq, Repr

/-- `reset(BUDGET)`, for every budget: the registers and flags, every byte of memory zero (`init()`, R34), the counter, no
fault, an empty trace (R24, R125). -/
def State.resetWith (budget : Int) : State :=
  { a := 0x00, x := 0x00, y := 0x00, sp := 0x01, pc := 0xFFFC,
    flagC := false, flagZ := false, flagI := false, flagD := false, flagB := false, flagV := false, flagN := false,
    cyc := budget, fault := none, diag := [], mem := [] }

/-- The machine right after reset, with the budget log 1 names (DESIGN CHOICE). -/
def State.reset : State := State.resetWith Config.budget

end Sys2Proof.Machine
end

