-- ==== Sys2Proof/Machine/Ops.lean ====
section
/-! DEFINITION. The named operations over memory and registers: the memory address decoder (spec/20_memory.md), the engine
primitives (spec/40_engine_primitives.md section 2), the diagnostic event, and the raising of `OutOfRange`
(spec/60_exceptions.md). -/

namespace Sys2Proof.Machine

/-! ### Memory as data -/

/-- The byte an address holds: its entry, or what an unlisted address reads as (R22, R24). -/
def Memory.read : Memory → Nat → Byte
  | [], _ => Config.unlisted
  | (k, b) :: m, addr => if k = addr then b else Memory.read m addr

/-- A memory without the entries at an address. -/
def Memory.drop : Memory → Nat → Memory
  | [], _ => []
  | (k, b) :: m, addr => if k = addr then Memory.drop m addr else (k, b) :: Memory.drop m addr

/-- An entry put before the first entry at a higher address. -/
def Memory.place : Memory → Nat → Byte → Memory
  | [], addr, v => [(addr, v)]
  | (k, b) :: m, addr, v => if addr < k then (addr, v) :: (k, b) :: m else (k, b) :: Memory.place m addr v

/-- The memory in which an address holds `v`, in canonical form. -/
def Memory.write (m : Memory) (addr : Nat) (v : Byte) : Memory :=
  if v = Config.unlisted then m.drop addr else (m.drop addr).place addr v

/-! ### The memory address decoder and the bus primitives -/

/-- `addr` is an address of memory (R30; 90_conflicts.md C2). -/
def addrValid (addr : Nat) : Bool := decide (addr < Config.maxMem)

/-- `MemRead(addr, 1)` (R31). -/
def memRead (m : Memory) (addr : Nat) : Except Fault Byte :=
  if addrValid addr then .ok (m.read addr) else .error (.outOfRange addr)

/-- `MemWrite(addr, 1, v)` (R32). -/
def memWrite (m : Memory) (addr : Nat) (v : Byte) : Except Fault Memory :=
  if addrValid addr then .ok (m.write addr v) else .error (.outOfRange addr)

/-- `MemRead(addr, 2)`: the low byte at `addr`, the high byte at `addr + 1`, not wrapped (R33, R35). -/
def memReadWord (m : Memory) (addr : Nat) : Except Fault Word :=
  match memRead m addr with
  | .error f => .error f
  | .ok lo =>
    match memRead m (addr + 1) with
    | .error f => .error f
    | .ok hi => .ok (wordOf hi lo)

/-- `MemWrite(addr, 2, w)`: the low byte at `addr`, the high byte at `addr + 1`, not wrapped (R33, R35). -/
def memWriteWord (m : Memory) (addr : Nat) (w : Word) : Except Fault Memory :=
  match memWrite m addr (lowByte w) with
  | .error f => .error f
  | .ok m' => memWrite m' (addr + 1) (highByte w)

/-- The memory a failed word write leaves: where the first byte was valid, the low byte has landed or not, a free value
(U3, D20; log 5); where it was not, nothing has changed. -/
def memAfterFailedWord (m : Memory) (addr : Nat) (w : Word) (cyc : Int) : Memory :=
  match memWrite m addr (lowByte w) with
  | .error _ => m
  | .ok m' => if Config.lowByteLands (m.read addr) w cyc then m' else m

/-- A sequence of byte writes at `addr`, `addr + 1`, …, not wrapped (R113). -/
def memWriteBytes (m : Memory) (addr : Nat) : List Byte → Except Fault Memory
  | [] => .ok m
  | b :: bs =>
    match memWrite m addr b with
    | .error f => .error f
    | .ok m' => memWriteBytes m' (addr + 1) bs

/-! ### Register and control-state updates -/

/-- `A <- v` (R10). -/
def State.setA (s : State) (v : Byte) : State := { s with a := v }

/-- `SP <- v` (R12). -/
def State.setSP (s : State) (v : Byte) : State := { s with sp := v }

/-- `PC <- v` (R13). -/
def State.setPC (s : State) (v : Word) : State := { s with pc := v }

/-- `CYC <- CYC - n` (R17, R74). -/
def State.spend (s : State) (n : Int) : State := { s with cyc := s.cyc - n }

/-- The memory replaced by the one a write leaves (R32). -/
def State.setMem (s : State) (m : Memory) : State := { s with mem := m }

/-- `Diag(e)`: one event appended to `DIAG`, nothing else (R103). -/
def State.report (s : State) (e : DiagEvent) : State := { s with diag := s.diag ++ [e] }

/-- `FAULT <- f` (R19, R101). -/
def State.latchFault (s : State) (f : Fault) : State := { s with fault := some f }

/-! ### Run state -/

/-- The run state, a function of `FAULT` and `CYC` (R18). -/
def State.runState (s : State) : RunState :=
  match s.fault with
  | some f => .faulted f
  | none => if 0 < s.cyc then .running else .halted

/-- The Running test of the loop (R65, R66). -/
def State.running (s : State) : Bool := decide (s.runState = .running)

/-! ### Accesses that may raise -/

/-- What a primitive answers: a value and the state it leaves, or a failed access and the state at the failure, in which
the effects of the primitives before it stand (R101). -/
inductive Access (α : Type) where
  | ok (v : α) (s : State)
  | raised (f : Fault) (s : State)

/-- One primitive after another, each seeing the state the earlier ones left; a failure ends the step (R68, R101, R104). -/
def Access.bind {α β : Type} : Access α → (α → State → Access β) → Access β
  | .ok v s, f => f v s
  | .raised e s, _ => .raised e s

/-- `raise OutOfRange(addr)` ends the step with the latch set; nothing is saved and control goes nowhere
(R101; decision D11; log 3). -/
def raiseFault (f : Fault) (s : State) : State := s.latchFault f

/-- The end of a step: the state its primitives left, or the state with the fault raised. -/
def Access.settle : Access Unit → Host.Outcome State Fault Refusal
  | .ok _ s => .next s
  | .raised f s => .next (raiseFault f s)

/-! ### The engine primitives -/

/-- `FetchByte()`: `MEM[PC]`, then `PC + 1` modulo 2^16 (decision D3; log 11) and one cycle (R70). -/
def fetchByte (s : State) : Access Byte :=
  match memRead s.mem s.pc.toNat with
  | .error f => .raised f s
  | .ok b => .ok b ((s.setPC (s.pc + 1)).spend 1)

/-- `FetchWord()`: two `FetchByte()`s, low byte first (R71). -/
def fetchWord (s : State) : Access Word :=
  (fetchByte s).bind fun lo s => (fetchByte s).bind fun hi s => .ok (wordOf hi lo) s

/-- `ReadByte(addr)`: a byte at a resolved address, one cycle (R72). -/
def readByte (addr : Word) (s : State) : Access Byte :=
  match memRead s.mem addr.toNat with
  | .error f => .raised f s
  | .ok b => .ok b (s.spend 1)

/-- `WriteWord(addr, v)`: a little-endian word at `addr` and `addr + 1`, not wrapped, two cycles (R73). -/
def writeWord (addr : Nat) (v : Word) (s : State) : Access Unit :=
  match memWriteWord s.mem addr v with
  | .error f => .raised f (s.setMem (memAfterFailedWord s.mem addr v s.cyc))
  | .ok m => .ok () ((s.setMem m).spend 2)

/-- The one cycle that belongs to no memory access (R74). -/
def internalCycle (s : State) : Access Unit := .ok () (s.spend 1)

/-! ### Fetching the instruction at the program counter -/

/-- The byte `k` places after the program counter, wrapped modulo 2^16 as fetches wrap (R13, R50). Reads have no side
effect and no cost of their own (R31, R38). -/
def codeByte (s : State) (k : Nat) : Byte := s.mem.read (s.pc + BitVec.ofNat 16 k).toNat

/-- The instruction that stands at the program counter (R50, R55). `exec` then performs the fetches as primitives
(log 6). -/
def fetchInstr (s : State) : Instr := decodeOp (codeByte s 0) (codeByte s 1) (codeByte s 2)

/-- A state with bytes stored at an address and the ones after it, wrapped modulo 2^16. -/
def State.storeCode (s : State) (addr : Word) : List Byte → State
  | [] => s
  | b :: bs => (s.setMem (s.mem.write addr.toNat b)).storeCode (addr + 1) bs

/-- A state that runs: the latch clear and at least one cycle left. It is the state itself where that is so (log 9). -/
def State.awake (s : State) : State := { s with fault := none, cyc := if 0 < s.cyc then s.cyc else 1 }

end Sys2Proof.Machine
end

