-- ==== Sys2Proof/Machine/Operands.lean ====
section
/-! DEFINITION. The addressing modes (spec/30_encoding.md R52; spec/40_engine_primitives.md R75 to R77, R80) and the
operands JSR forms (spec/42_control_transfer.md R90). The immediate mode has no address: the operand byte is the data. -/

namespace Sys2Proof.Machine

/-- `EA_zp(b1)`, zero-extended (R75). -/
def eaZp (b1 : Byte) : Word := b1.setWidth 16

/-- `EA_zpx(b1, X)`: the sum wraps within eight bits and never leaves the zero page (R76). -/
def eaZpx (b1 x : Byte) : Word := (b1 + x).setWidth 16

/-- `StackAddr(sp)`, a natural number (R77; decision D5; log 8). -/
def stackAddr (sp : Byte) : Nat := Config.stackBase + sp.toNat

/-- The value JSR pushes: the program counter after its three bytes, less one, modulo 2^16 (R90; decision D7; log 11). -/
def returnAddr (pc : Word) : Word := pc - 1

/-- The stack pointer after a push, modulo 256 (R90; decisions D4, D6; logs 8, 11). -/
def pushedSP (sp : Byte) : Byte := sp + Config.jsrSpStep

/-- The opcode byte's fetch, as a primitive of the step whose instruction is known: its byte has been decoded (R67). -/
def passOpcode (s : State) : Access Unit := (fetchByte s).bind fun _ s => .ok () s

/-- The fetch of the operand byte an instruction carries (R51). -/
def passByte (s : State) : Access Unit := (fetchByte s).bind fun _ s => .ok () s

/-- The fetch of the operand word an instruction carries (R51). -/
def passWord (s : State) : Access Unit := (fetchWord s).bind fun _ s => .ok () s

end Sys2Proof.Machine
end

