-- ==== Sys2Proof/Machine/Control.lean ====
section
/-! DEFINITION. Control transfer: JSR, the only one (spec/42_control_transfer.md). -/

namespace Sys2Proof.Machine

/-- What JSR does once its target is fetched: push the address of its last byte at the stack pointer, move the pointer up,
go to the target, spend the internal cycle (R90; decisions D4 to D7; logs 8, 11). -/
def callTo (t : Word) (s : State) : Access Unit :=
  (writeWord (stackAddr s.sp) (returnAddr s.pc) s).bind fun _ s => internalCycle ((s.setSP (pushedSP s.sp)).setPC t)

/-- JSR (R90), the whole step with `PC` at the opcode. -/
def execJsr (t : Word) (s : State) : Host.Outcome State Fault Refusal :=
  ((passOpcode s).bind fun _ s => (passWord s).bind fun _ s => callTo t s).settle

end Sys2Proof.Machine
end

