-- ==== Sys2Proof/Machine/Flags.lean ====
section
/-! DEFINITION. The one flag computation of the machine (spec/40_engine_primitives.md R78). -/

namespace Sys2Proof.Machine

/-- `Z` of a loaded value (R78). -/
def zeroOf (v : Byte) : Bool := decide (v = 0x00)

/-- `N` of a loaded value: its bit 7 (R78). -/
def negativeOf (v : Byte) : Bool := v.getLsbD 7

/-- `SetZN(v)` writes `Z` and `N` and no other flag (R78). -/
def State.setZN (s : State) (v : Byte) : State := { s with flagZ := zeroOf v, flagN := negativeOf v }

end Sys2Proof.Machine
end

