-- ==== Sys2Proof/Machine/Load.lean ====
section
/-! DEFINITION. The load instructions (spec/41_load.md). Each meaning is the whole step, opcode fetch included, begun with
`PC` at the opcode. -/

namespace Sys2Proof.Machine

/-- `A <- v`, then `SetZN(v)`: the common end of the three forms (R88). -/
def loadA (v : Byte) (s : State) : Access Unit := .ok () ((s.setA v).setZN v)

/-- LDA immediate (R85). -/
def execLdaIm (b1 : Byte) (s : State) : Host.Outcome State Fault Refusal :=
  ((passOpcode s).bind fun _ s => (passByte s).bind fun _ s => loadA b1 s).settle

/-- LDA zero-page (R86). -/
def execLdaZp (b1 : Byte) (s : State) : Host.Outcome State Fault Refusal :=
  ((passOpcode s).bind fun _ s => (passByte s).bind fun _ s => (readByte (eaZp b1) s).bind loadA).settle

/-- LDA zero-page,X (R87). -/
def execLdaZpx (b1 : Byte) (s : State) : Host.Outcome State Fault Refusal :=
  ((passOpcode s).bind fun _ s => (passByte s).bind fun _ s =>
    (internalCycle s).bind fun _ s => (readByte (eaZpx b1 s.x) s).bind loadA).settle

end Sys2Proof.Machine
end

