-- ==== Sys2Proof/Machine/Unhandled.lean ====
section
/-! DEFINITION. The 252 Unhandled opcodes (spec/43_unhandled.md): one shared operation, and one definition per row of the
opcode table over it. -/

namespace Sys2Proof.Machine

/-- An Unhandled opcode: the opcode fetch, then one event with the byte and the address it was fetched from (R95, R103).
The whole step, with `PC` at the opcode. -/
def unhandledOpcode (op : Byte) (s : State) : Host.Outcome State Fault Refusal :=
  ((passOpcode s).bind fun _ t => .ok () (t.report (.unhandledOpcode op s.pc))).settle

/-- Opcode 0x00 (R95). -/
def execUnhandled00 (s : State) : Host.Outcome State Fault Refusal := unhandledOpcode 0x00 s

/-- Opcode 0x01 (R95). -/
def execUnhandled01 (s : State) : Host.Outcome State Fault Refusal := unhandledOpcode 0x01 s

/-- Opcode 0x02 (R95). -/
def execUnhandled02 (s : State) : Host.Outcome State Fault Refusal := unhandledOpcode 0x02 s

/-- Opcode 0x03 (R95). -/
def execUnhandled03 (s : State) : Host.Outcome State Fault Refusal := unhandledOpcode 0x03 s

/-- Opcode 0x04 (R95). -/
def execUnhandled04 (s : State) : Host.Outcome State Fault Refusal := unhandledOpcode 0x04 s

/-- Opcode 0x05 (R95). -/
def execUnhandled05 (s : State) : Host.Outcome State Fault Refusal := unhandledOpcode 0x05 s

/-- Opcode 0x06 (R95). -/
def execUnhandled06 (s : State) : Host.Outcome State Fault Refusal := unhandledOpcode 0x06 s

/-- Opcode 0x07 (R95). -/
def execUnhandled07 (s : State) : Host.Outcome State Fault Refusal := unhandledOpcode 0x07 s

/-- Opcode 0x08 (R95). -/
def execUnhandled08 (s : State) : Host.Outcome State Fault Refusal := unhandledOpcode 0x08 s

/-- Opcode 0x09 (R95). -/
def execUnhandled09 (s : State) : Host.Outcome State Fault Refusal := unhandledOpcode 0x09 s

/-- Opcode 0x0A (R95). -/
def execUnhandled0A (s : State) : Host.Outcome State Fault Refusal := unhandledOpcode 0x0A s

/-- Opcode 0x0B (R95). -/
def execUnhandled0B (s : State) : Host.Outcome State Fault Refusal := unhandledOpcode 0x0B s

/-- Opcode 0x0C (R95). -/
def execUnhandled0C (s : State) : Host.Outcome State Fault Refusal := unhandledOpcode 0x0C s

/-- Opcode 0x0D (R95). -/
def execUnhandled0D (s : State) : Host.Outcome State Fault Refusal := unhandledOpcode 0x0D s

/-- Opcode 0x0E (R95). -/
def execUnhandled0E (s : State) : Host.Outcome State Fault Refusal := unhandledOpcode 0x0E s

/-- Opcode 0x0F (R95). -/
def execUnhandled0F (s : State) : Host.Outcome State Fault Refusal := unhandledOpcode 0x0F s

/-- Opcode 0x10 (R95). -/
def execUnhandled10 (s : State) : Host.Outcome State Fault Refusal := unhandledOpcode 0x10 s

/-- Opcode 0x11 (R95). -/
def execUnhandled11 (s : State) : Host.Outcome State Fault Refusal := unhandledOpcode 0x11 s

/-- Opcode 0x12 (R95). -/
def execUnhandled12 (s : State) : Host.Outcome State Fault Refusal := unhandledOpcode 0x12 s

/-- Opcode 0x13 (R95). -/
def execUnhandled13 (s : State) : Host.Outcome State Fault Refusal := unhandledOpcode 0x13 s

/-- Opcode 0x14 (R95). -/
def execUnhandled14 (s : State) : Host.Outcome State Fault Refusal := unhandledOpcode 0x14 s

/-- Opcode 0x15 (R95). -/
def execUnhandled15 (s : State) : Host.Outcome State Fault Refusal := unhandledOpcode 0x15 s

/-- Opcode 0x16 (R95). -/
def execUnhandled16 (s : State) : Host.Outcome State Fault Refusal := unhandledOpcode 0x16 s

/-- Opcode 0x17 (R95). -/
def execUnhandled17 (s : State) : Host.Outcome State Fault Refusal := unhandledOpcode 0x17 s

/-- Opcode 0x18 (R95). -/
def execUnhandled18 (s : State) : Host.Outcome State Fault Refusal := unhandledOpcode 0x18 s

/-- Opcode 0x19 (R95). -/
def execUnhandled19 (s : State) : Host.Outcome State Fault Refusal := unhandledOpcode 0x19 s

/-- Opcode 0x1A (R95). -/
def execUnhandled1A (s : State) : Host.Outcome State Fault Refusal := unhandledOpcode 0x1A s

/-- Opcode 0x1B (R95). -/
def execUnhandled1B (s : State) : Host.Outcome State Fault Refusal := unhandledOpcode 0x1B s

/-- Opcode 0x1C (R95). -/
def execUnhandled1C (s : State) : Host.Outcome State Fault Refusal := unhandledOpcode 0x1C s

/-- Opcode 0x1D (R95). -/
def execUnhandled1D (s : State) : Host.Outcome State Fault Refusal := unhandledOpcode 0x1D s

/-- Opcode 0x1E (R95). -/
def execUnhandled1E (s : State) : Host.Outcome State Fault Refusal := unhandledOpcode 0x1E s

/-- Opcode 0x1F (R95). -/
def execUnhandled1F (s : State) : Host.Outcome State Fault Refusal := unhandledOpcode 0x1F s

/-- Opcode 0x21 (R95). -/
def execUnhandled21 (s : State) : Host.Outcome State Fault Refusal := unhandledOpcode 0x21 s

/-- Opcode 0x22 (R95). -/
def execUnhandled22 (s : State) : Host.Outcome State Fault Refusal := unhandledOpcode 0x22 s

/-- Opcode 0x23 (R95). -/
def execUnhandled23 (s : State) : Host.Outcome State Fault Refusal := unhandledOpcode 0x23 s

/-- Opcode 0x24 (R95). -/
def execUnhandled24 (s : State) : Host.Outcome State Fault Refusal := unhandledOpcode 0x24 s

/-- Opcode 0x25 (R95). -/
def execUnhandled25 (s : State) : Host.Outcome State Fault Refusal := unhandledOpcode 0x25 s

/-- Opcode 0x26 (R95). -/
def execUnhandled26 (s : State) : Host.Outcome State Fault Refusal := unhandledOpcode 0x26 s

/-- Opcode 0x27 (R95). -/
def execUnhandled27 (s : State) : Host.Outcome State Fault Refusal := unhandledOpcode 0x27 s

/-- Opcode 0x28 (R95). -/
def execUnhandled28 (s : State) : Host.Outcome State Fault Refusal := unhandledOpcode 0x28 s

/-- Opcode 0x29 (R95). -/
def execUnhandled29 (s : State) : Host.Outcome State Fault Refusal := unhandledOpcode 0x29 s

/-- Opcode 0x2A (R95). -/
def execUnhandled2A (s : State) : Host.Outcome State Fault Refusal := unhandledOpcode 0x2A s

/-- Opcode 0x2B (R95). -/
def execUnhandled2B (s : State) : Host.Outcome State Fault Refusal := unhandledOpcode 0x2B s

/-- Opcode 0x2C (R95). -/
def execUnhandled2C (s : State) : Host.Outcome State Fault Refusal := unhandledOpcode 0x2C s

/-- Opcode 0x2D (R95). -/
def execUnhandled2D (s : State) : Host.Outcome State Fault Refusal := unhandledOpcode 0x2D s

/-- Opcode 0x2E (R95). -/
def execUnhandled2E (s : State) : Host.Outcome State Fault Refusal := unhandledOpcode 0x2E s

/-- Opcode 0x2F (R95). -/
def execUnhandled2F (s : State) : Host.Outcome State Fault Refusal := unhandledOpcode 0x2F s

/-- Opcode 0x30 (R95). -/
def execUnhandled30 (s : State) : Host.Outcome State Fault Refusal := unhandledOpcode 0x30 s

/-- Opcode 0x31 (R95). -/
def execUnhandled31 (s : State) : Host.Outcome State Fault Refusal := unhandledOpcode 0x31 s

/-- Opcode 0x32 (R95). -/
def execUnhandled32 (s : State) : Host.Outcome State Fault Refusal := unhandledOpcode 0x32 s

/-- Opcode 0x33 (R95). -/
def execUnhandled33 (s : State) : Host.Outcome State Fault Refusal := unhandledOpcode 0x33 s

/-- Opcode 0x34 (R95). -/
def execUnhandled34 (s : State) : Host.Outcome State Fault Refusal := unhandledOpcode 0x34 s

/-- Opcode 0x35 (R95). -/
def execUnhandled35 (s : State) : Host.Outcome State Fault Refusal := unhandledOpcode 0x35 s

/-- Opcode 0x36 (R95). -/
def execUnhandled36 (s : State) : Host.Outcome State Fault Refusal := unhandledOpcode 0x36 s

/-- Opcode 0x37 (R95). -/
def execUnhandled37 (s : State) : Host.Outcome State Fault Refusal := unhandledOpcode 0x37 s

/-- Opcode 0x38 (R95). -/
def execUnhandled38 (s : State) : Host.Outcome State Fault Refusal := unhandledOpcode 0x38 s

/-- Opcode 0x39 (R95). -/
def execUnhandled39 (s : State) : Host.Outcome State Fault Refusal := unhandledOpcode 0x39 s

/-- Opcode 0x3A (R95). -/
def execUnhandled3A (s : State) : Host.Outcome State Fault Refusal := unhandledOpcode 0x3A s

/-- Opcode 0x3B (R95). -/
def execUnhandled3B (s : State) : Host.Outcome State Fault Refusal := unhandledOpcode 0x3B s

/-- Opcode 0x3C (R95). -/
def execUnhandled3C (s : State) : Host.Outcome State Fault Refusal := unhandledOpcode 0x3C s

/-- Opcode 0x3D (R95). -/
def execUnhandled3D (s : State) : Host.Outcome State Fault Refusal := unhandledOpcode 0x3D s

/-- Opcode 0x3E (R95). -/
def execUnhandled3E (s : State) : Host.Outcome State Fault Refusal := unhandledOpcode 0x3E s

/-- Opcode 0x3F (R95). -/
def execUnhandled3F (s : State) : Host.Outcome State Fault Refusal := unhandledOpcode 0x3F s

/-- Opcode 0x40 (R95). -/
def execUnhandled40 (s : State) : Host.Outcome State Fault Refusal := unhandledOpcode 0x40 s

/-- Opcode 0x41 (R95). -/
def execUnhandled41 (s : State) : Host.Outcome State Fault Refusal := unhandledOpcode 0x41 s

/-- Opcode 0x42 (R95). -/
def execUnhandled42 (s : State) : Host.Outcome State Fault Refusal := unhandledOpcode 0x42 s

/-- Opcode 0x43 (R95). -/
def execUnhandled43 (s : State) : Host.Outcome State Fault Refusal := unhandledOpcode 0x43 s

/-- Opcode 0x44 (R95). -/
def execUnhandled44 (s : State) : Host.Outcome State Fault Refusal := unhandledOpcode 0x44 s

/-- Opcode 0x45 (R95). -/
def execUnhandled45 (s : State) : Host.Outcome State Fault Refusal := unhandledOpcode 0x45 s

/-- Opcode 0x46 (R95). -/
def execUnhandled46 (s : State) : Host.Outcome State Fault Refusal := unhandledOpcode 0x46 s

/-- Opcode 0x47 (R95). -/
def execUnhandled47 (s : State) : Host.Outcome State Fault Refusal := unhandledOpcode 0x47 s

/-- Opcode 0x48 (R95). -/
def execUnhandled48 (s : State) : Host.Outcome State Fault Refusal := unhandledOpcode 0x48 s

/-- Opcode 0x49 (R95). -/
def execUnhandled49 (s : State) : Host.Outcome State Fault Refusal := unhandledOpcode 0x49 s

/-- Opcode 0x4A (R95). -/
def execUnhandled4A (s : State) : Host.Outcome State Fault Refusal := unhandledOpcode 0x4A s

/-- Opcode 0x4B (R95). -/
def execUnhandled4B (s : State) : Host.Outcome State Fault Refusal := unhandledOpcode 0x4B s

/-- Opcode 0x4C (R95). -/
def execUnhandled4C (s : State) : Host.Outcome State Fault Refusal := unhandledOpcode 0x4C s

/-- Opcode 0x4D (R95). -/
def execUnhandled4D (s : State) : Host.Outcome State Fault Refusal := unhandledOpcode 0x4D s

/-- Opcode 0x4E (R95). -/
def execUnhandled4E (s : State) : Host.Outcome State Fault Refusal := unhandledOpcode 0x4E s

/-- Opcode 0x4F (R95). -/
def execUnhandled4F (s : State) : Host.Outcome State Fault Refusal := unhandledOpcode 0x4F s

/-- Opcode 0x50 (R95). -/
def execUnhandled50 (s : State) : Host.Outcome State Fault Refusal := unhandledOpcode 0x50 s

/-- Opcode 0x51 (R95). -/
def execUnhandled51 (s : State) : Host.Outcome State Fault Refusal := unhandledOpcode 0x51 s

/-- Opcode 0x52 (R95). -/
def execUnhandled52 (s : State) : Host.Outcome State Fault Refusal := unhandledOpcode 0x52 s

/-- Opcode 0x53 (R95). -/
def execUnhandled53 (s : State) : Host.Outcome State Fault Refusal := unhandledOpcode 0x53 s

/-- Opcode 0x54 (R95). -/
def execUnhandled54 (s : State) : Host.Outcome State Fault Refusal := unhandledOpcode 0x54 s

/-- Opcode 0x55 (R95). -/
def execUnhandled55 (s : State) : Host.Outcome State Fault Refusal := unhandledOpcode 0x55 s

/-- Opcode 0x56 (R95). -/
def execUnhandled56 (s : State) : Host.Outcome State Fault Refusal := unhandledOpcode 0x56 s

/-- Opcode 0x57 (R95). -/
def execUnhandled57 (s : State) : Host.Outcome State Fault Refusal := unhandledOpcode 0x57 s

/-- Opcode 0x58 (R95). -/
def execUnhandled58 (s : State) : Host.Outcome State Fault Refusal := unhandledOpcode 0x58 s

/-- Opcode 0x59 (R95). -/
def execUnhandled59 (s : State) : Host.Outcome State Fault Refusal := unhandledOpcode 0x59 s

/-- Opcode 0x5A (R95). -/
def execUnhandled5A (s : State) : Host.Outcome State Fault Refusal := unhandledOpcode 0x5A s

/-- Opcode 0x5B (R95). -/
def execUnhandled5B (s : State) : Host.Outcome State Fault Refusal := unhandledOpcode 0x5B s

/-- Opcode 0x5C (R95). -/
def execUnhandled5C (s : State) : Host.Outcome State Fault Refusal := unhandledOpcode 0x5C s

/-- Opcode 0x5D (R95). -/
def execUnhandled5D (s : State) : Host.Outcome State Fault Refusal := unhandledOpcode 0x5D s

/-- Opcode 0x5E (R95). -/
def execUnhandled5E (s : State) : Host.Outcome State Fault Refusal := unhandledOpcode 0x5E s

/-- Opcode 0x5F (R95). -/
def execUnhandled5F (s : State) : Host.Outcome State Fault Refusal := unhandledOpcode 0x5F s

/-- Opcode 0x60 (R95). -/
def execUnhandled60 (s : State) : Host.Outcome State Fault Refusal := unhandledOpcode 0x60 s

/-- Opcode 0x61 (R95). -/
def execUnhandled61 (s : State) : Host.Outcome State Fault Refusal := unhandledOpcode 0x61 s

/-- Opcode 0x62 (R95). -/
def execUnhandled62 (s : State) : Host.Outcome State Fault Refusal := unhandledOpcode 0x62 s

/-- Opcode 0x63 (R95). -/
def execUnhandled63 (s : State) : Host.Outcome State Fault Refusal := unhandledOpcode 0x63 s

/-- Opcode 0x64 (R95). -/
def execUnhandled64 (s : State) : Host.Outcome State Fault Refusal := unhandledOpcode 0x64 s

/-- Opcode 0x65 (R95). -/
def execUnhandled65 (s : State) : Host.Outcome State Fault Refusal := unhandledOpcode 0x65 s

/-- Opcode 0x66 (R95). -/
def execUnhandled66 (s : State) : Host.Outcome State Fault Refusal := unhandledOpcode 0x66 s

/-- Opcode 0x67 (R95). -/
def execUnhandled67 (s : State) : Host.Outcome State Fault Refusal := unhandledOpcode 0x67 s

/-- Opcode 0x68 (R95). -/
def execUnhandled68 (s : State) : Host.Outcome State Fault Refusal := unhandledOpcode 0x68 s

/-- Opcode 0x69 (R95). -/
def execUnhandled69 (s : State) : Host.Outcome State Fault Refusal := unhandledOpcode 0x69 s

/-- Opcode 0x6A (R95). -/
def execUnhandled6A (s : State) : Host.Outcome State Fault Refusal := unhandledOpcode 0x6A s

/-- Opcode 0x6B (R95). -/
def execUnhandled6B (s : State) : Host.Outcome State Fault Refusal := unhandledOpcode 0x6B s

/-- Opcode 0x6C (R95). -/
def execUnhandled6C (s : State) : Host.Outcome State Fault Refusal := unhandledOpcode 0x6C s

/-- Opcode 0x6D (R95). -/
def execUnhandled6D (s : State) : Host.Outcome State Fault Refusal := unhandledOpcode 0x6D s

/-- Opcode 0x6E (R95). -/
def execUnhandled6E (s : State) : Host.Outcome State Fault Refusal := unhandledOpcode 0x6E s

/-- Opcode 0x6F (R95). -/
def execUnhandled6F (s : State) : Host.Outcome State Fault Refusal := unhandledOpcode 0x6F s

/-- Opcode 0x70 (R95). -/
def execUnhandled70 (s : State) : Host.Outcome State Fault Refusal := unhandledOpcode 0x70 s

/-- Opcode 0x71 (R95). -/
def execUnhandled71 (s : State) : Host.Outcome State Fault Refusal := unhandledOpcode 0x71 s

/-- Opcode 0x72 (R95). -/
def execUnhandled72 (s : State) : Host.Outcome State Fault Refusal := unhandledOpcode 0x72 s

/-- Opcode 0x73 (R95). -/
def execUnhandled73 (s : State) : Host.Outcome State Fault Refusal := unhandledOpcode 0x73 s

/-- Opcode 0x74 (R95). -/
def execUnhandled74 (s : State) : Host.Outcome State Fault Refusal := unhandledOpcode 0x74 s

/-- Opcode 0x75 (R95). -/
def execUnhandled75 (s : State) : Host.Outcome State Fault Refusal := unhandledOpcode 0x75 s

/-- Opcode 0x76 (R95). -/
def execUnhandled76 (s : State) : Host.Outcome State Fault Refusal := unhandledOpcode 0x76 s

/-- Opcode 0x77 (R95). -/
def execUnhandled77 (s : State) : Host.Outcome State Fault Refusal := unhandledOpcode 0x77 s

/-- Opcode 0x78 (R95). -/
def execUnhandled78 (s : State) : Host.Outcome State Fault Refusal := unhandledOpcode 0x78 s

/-- Opcode 0x79 (R95). -/
def execUnhandled79 (s : State) : Host.Outcome State Fault Refusal := unhandledOpcode 0x79 s

/-- Opcode 0x7A (R95). -/
def execUnhandled7A (s : State) : Host.Outcome State Fault Refusal := unhandledOpcode 0x7A s

/-- Opcode 0x7B (R95). -/
def execUnhandled7B (s : State) : Host.Outcome State Fault Refusal := unhandledOpcode 0x7B s

/-- Opcode 0x7C (R95). -/
def execUnhandled7C (s : State) : Host.Outcome State Fault Refusal := unhandledOpcode 0x7C s

/-- Opcode 0x7D (R95). -/
def execUnhandled7D (s : State) : Host.Outcome State Fault Refusal := unhandledOpcode 0x7D s

/-- Opcode 0x7E (R95). -/
def execUnhandled7E (s : State) : Host.Outcome State Fault Refusal := unhandledOpcode 0x7E s

/-- Opcode 0x7F (R95). -/
def execUnhandled7F (s : State) : Host.Outcome State Fault Refusal := unhandledOpcode 0x7F s

/-- Opcode 0x80 (R95). -/
def execUnhandled80 (s : State) : Host.Outcome State Fault Refusal := unhandledOpcode 0x80 s

/-- Opcode 0x81 (R95). -/
def execUnhandled81 (s : State) : Host.Outcome State Fault Refusal := unhandledOpcode 0x81 s

/-- Opcode 0x82 (R95). -/
def execUnhandled82 (s : State) : Host.Outcome State Fault Refusal := unhandledOpcode 0x82 s

/-- Opcode 0x83 (R95). -/
def execUnhandled83 (s : State) : Host.Outcome State Fault Refusal := unhandledOpcode 0x83 s

/-- Opcode 0x84 (R95). -/
def execUnhandled84 (s : State) : Host.Outcome State Fault Refusal := unhandledOpcode 0x84 s

/-- Opcode 0x85 (R95). -/
def execUnhandled85 (s : State) : Host.Outcome State Fault Refusal := unhandledOpcode 0x85 s

/-- Opcode 0x86 (R95). -/
def execUnhandled86 (s : State) : Host.Outcome State Fault Refusal := unhandledOpcode 0x86 s

/-- Opcode 0x87 (R95). -/
def execUnhandled87 (s : State) : Host.Outcome State Fault Refusal := unhandledOpcode 0x87 s

/-- Opcode 0x88 (R95). -/
def execUnhandled88 (s : State) : Host.Outcome State Fault Refusal := unhandledOpcode 0x88 s

/-- Opcode 0x89 (R95). -/
def execUnhandled89 (s : State) : Host.Outcome State Fault Refusal := unhandledOpcode 0x89 s

/-- Opcode 0x8A (R95). -/
def execUnhandled8A (s : State) : Host.Outcome State Fault Refusal := unhandledOpcode 0x8A s

/-- Opcode 0x8B (R95). -/
def execUnhandled8B (s : State) : Host.Outcome State Fault Refusal := unhandledOpcode 0x8B s

/-- Opcode 0x8C (R95). -/
def execUnhandled8C (s : State) : Host.Outcome State Fault Refusal := unhandledOpcode 0x8C s

/-- Opcode 0x8D (R95). -/
def execUnhandled8D (s : State) : Host.Outcome State Fault Refusal := unhandledOpcode 0x8D s

/-- Opcode 0x8E (R95). -/
def execUnhandled8E (s : State) : Host.Outcome State Fault Refusal := unhandledOpcode 0x8E s

/-- Opcode 0x8F (R95). -/
def execUnhandled8F (s : State) : Host.Outcome State Fault Refusal := unhandledOpcode 0x8F s

/-- Opcode 0x90 (R95). -/
def execUnhandled90 (s : State) : Host.Outcome State Fault Refusal := unhandledOpcode 0x90 s

/-- Opcode 0x91 (R95). -/
def execUnhandled91 (s : State) : Host.Outcome State Fault Refusal := unhandledOpcode 0x91 s

/-- Opcode 0x92 (R95). -/
def execUnhandled92 (s : State) : Host.Outcome State Fault Refusal := unhandledOpcode 0x92 s

/-- Opcode 0x93 (R95). -/
def execUnhandled93 (s : State) : Host.Outcome State Fault Refusal := unhandledOpcode 0x93 s

/-- Opcode 0x94 (R95). -/
def execUnhandled94 (s : State) : Host.Outcome State Fault Refusal := unhandledOpcode 0x94 s

/-- Opcode 0x95 (R95). -/
def execUnhandled95 (s : State) : Host.Outcome State Fault Refusal := unhandledOpcode 0x95 s

/-- Opcode 0x96 (R95). -/
def execUnhandled96 (s : State) : Host.Outcome State Fault Refusal := unhandledOpcode 0x96 s

/-- Opcode 0x97 (R95). -/
def execUnhandled97 (s : State) : Host.Outcome State Fault Refusal := unhandledOpcode 0x97 s

/-- Opcode 0x98 (R95). -/
def execUnhandled98 (s : State) : Host.Outcome State Fault Refusal := unhandledOpcode 0x98 s

/-- Opcode 0x99 (R95). -/
def execUnhandled99 (s : State) : Host.Outcome State Fault Refusal := unhandledOpcode 0x99 s

/-- Opcode 0x9A (R95). -/
def execUnhandled9A (s : State) : Host.Outcome State Fault Refusal := unhandledOpcode 0x9A s

/-- Opcode 0x9B (R95). -/
def execUnhandled9B (s : State) : Host.Outcome State Fault Refusal := unhandledOpcode 0x9B s

/-- Opcode 0x9C (R95). -/
def execUnhandled9C (s : State) : Host.Outcome State Fault Refusal := unhandledOpcode 0x9C s

/-- Opcode 0x9D (R95). -/
def execUnhandled9D (s : State) : Host.Outcome State Fault Refusal := unhandledOpcode 0x9D s

/-- Opcode 0x9E (R95). -/
def execUnhandled9E (s : State) : Host.Outcome State Fault Refusal := unhandledOpcode 0x9E s

/-- Opcode 0x9F (R95). -/
def execUnhandled9F (s : State) : Host.Outcome State Fault Refusal := unhandledOpcode 0x9F s

/-- Opcode 0xA0 (R95). -/
def execUnhandledA0 (s : State) : Host.Outcome State Fault Refusal := unhandledOpcode 0xA0 s

/-- Opcode 0xA1 (R95). -/
def execUnhandledA1 (s : State) : Host.Outcome State Fault Refusal := unhandledOpcode 0xA1 s

/-- Opcode 0xA2 (R95). -/
def execUnhandledA2 (s : State) : Host.Outcome State Fault Refusal := unhandledOpcode 0xA2 s

/-- Opcode 0xA3 (R95). -/
def execUnhandledA3 (s : State) : Host.Outcome State Fault Refusal := unhandledOpcode 0xA3 s

/-- Opcode 0xA4 (R95). -/
def execUnhandledA4 (s : State) : Host.Outcome State Fault Refusal := unhandledOpcode 0xA4 s

/-- Opcode 0xA6 (R95). -/
def execUnhandledA6 (s : State) : Host.Outcome State Fault Refusal := unhandledOpcode 0xA6 s

/-- Opcode 0xA7 (R95). -/
def execUnhandledA7 (s : State) : Host.Outcome State Fault Refusal := unhandledOpcode 0xA7 s

/-- Opcode 0xA8 (R95). -/
def execUnhandledA8 (s : State) : Host.Outcome State Fault Refusal := unhandledOpcode 0xA8 s

/-- Opcode 0xAA (R95). -/
def execUnhandledAA (s : State) : Host.Outcome State Fault Refusal := unhandledOpcode 0xAA s

/-- Opcode 0xAB (R95). -/
def execUnhandledAB (s : State) : Host.Outcome State Fault Refusal := unhandledOpcode 0xAB s

/-- Opcode 0xAC (R95). -/
def execUnhandledAC (s : State) : Host.Outcome State Fault Refusal := unhandledOpcode 0xAC s

/-- Opcode 0xAD (R95). -/
def execUnhandledAD (s : State) : Host.Outcome State Fault Refusal := unhandledOpcode 0xAD s

/-- Opcode 0xAE (R95). -/
def execUnhandledAE (s : State) : Host.Outcome State Fault Refusal := unhandledOpcode 0xAE s

/-- Opcode 0xAF (R95). -/
def execUnhandledAF (s : State) : Host.Outcome State Fault Refusal := unhandledOpcode 0xAF s

/-- Opcode 0xB0 (R95). -/
def execUnhandledB0 (s : State) : Host.Outcome State Fault Refusal := unhandledOpcode 0xB0 s

/-- Opcode 0xB1 (R95). -/
def execUnhandledB1 (s : State) : Host.Outcome State Fault Refusal := unhandledOpcode 0xB1 s

/-- Opcode 0xB2 (R95). -/
def execUnhandledB2 (s : State) : Host.Outcome State Fault Refusal := unhandledOpcode 0xB2 s

/-- Opcode 0xB3 (R95). -/
def execUnhandledB3 (s : State) : Host.Outcome State Fault Refusal := unhandledOpcode 0xB3 s

/-- Opcode 0xB4 (R95). -/
def execUnhandledB4 (s : State) : Host.Outcome State Fault Refusal := unhandledOpcode 0xB4 s

/-- Opcode 0xB6 (R95). -/
def execUnhandledB6 (s : State) : Host.Outcome State Fault Refusal := unhandledOpcode 0xB6 s

/-- Opcode 0xB7 (R95). -/
def execUnhandledB7 (s : State) : Host.Outcome State Fault Refusal := unhandledOpcode 0xB7 s

/-- Opcode 0xB8 (R95). -/
def execUnhandledB8 (s : State) : Host.Outcome State Fault Refusal := unhandledOpcode 0xB8 s

/-- Opcode 0xB9 (R95). -/
def execUnhandledB9 (s : State) : Host.Outcome State Fault Refusal := unhandledOpcode 0xB9 s

/-- Opcode 0xBA (R95). -/
def execUnhandledBA (s : State) : Host.Outcome State Fault Refusal := unhandledOpcode 0xBA s

/-- Opcode 0xBB (R95). -/
def execUnhandledBB (s : State) : Host.Outcome State Fault Refusal := unhandledOpcode 0xBB s

/-- Opcode 0xBC (R95). -/
def execUnhandledBC (s : State) : Host.Outcome State Fault Refusal := unhandledOpcode 0xBC s

/-- Opcode 0xBD (R95). -/
def execUnhandledBD (s : State) : Host.Outcome State Fault Refusal := unhandledOpcode 0xBD s

/-- Opcode 0xBE (R95). -/
def execUnhandledBE (s : State) : Host.Outcome State Fault Refusal := unhandledOpcode 0xBE s

/-- Opcode 0xBF (R95). -/
def execUnhandledBF (s : State) : Host.Outcome State Fault Refusal := unhandledOpcode 0xBF s

/-- Opcode 0xC0 (R95). -/
def execUnhandledC0 (s : State) : Host.Outcome State Fault Refusal := unhandledOpcode 0xC0 s

/-- Opcode 0xC1 (R95). -/
def execUnhandledC1 (s : State) : Host.Outcome State Fault Refusal := unhandledOpcode 0xC1 s

/-- Opcode 0xC2 (R95). -/
def execUnhandledC2 (s : State) : Host.Outcome State Fault Refusal := unhandledOpcode 0xC2 s

/-- Opcode 0xC3 (R95). -/
def execUnhandledC3 (s : State) : Host.Outcome State Fault Refusal := unhandledOpcode 0xC3 s

/-- Opcode 0xC4 (R95). -/
def execUnhandledC4 (s : State) : Host.Outcome State Fault Refusal := unhandledOpcode 0xC4 s

/-- Opcode 0xC5 (R95). -/
def execUnhandledC5 (s : State) : Host.Outcome State Fault Refusal := unhandledOpcode 0xC5 s

/-- Opcode 0xC6 (R95). -/
def execUnhandledC6 (s : State) : Host.Outcome State Fault Refusal := unhandledOpcode 0xC6 s

/-- Opcode 0xC7 (R95). -/
def execUnhandledC7 (s : State) : Host.Outcome State Fault Refusal := unhandledOpcode 0xC7 s

/-- Opcode 0xC8 (R95). -/
def execUnhandledC8 (s : State) : Host.Outcome State Fault Refusal := unhandledOpcode 0xC8 s

/-- Opcode 0xC9 (R95). -/
def execUnhandledC9 (s : State) : Host.Outcome State Fault Refusal := unhandledOpcode 0xC9 s

/-- Opcode 0xCA (R95). -/
def execUnhandledCA (s : State) : Host.Outcome State Fault Refusal := unhandledOpcode 0xCA s

/-- Opcode 0xCB (R95). -/
def execUnhandledCB (s : State) : Host.Outcome State Fault Refusal := unhandledOpcode 0xCB s

/-- Opcode 0xCC (R95). -/
def execUnhandledCC (s : State) : Host.Outcome State Fault Refusal := unhandledOpcode 0xCC s

/-- Opcode 0xCD (R95). -/
def execUnhandledCD (s : State) : Host.Outcome State Fault Refusal := unhandledOpcode 0xCD s

/-- Opcode 0xCE (R95). -/
def execUnhandledCE (s : State) : Host.Outcome State Fault Refusal := unhandledOpcode 0xCE s

/-- Opcode 0xCF (R95). -/
def execUnhandledCF (s : State) : Host.Outcome State Fault Refusal := unhandledOpcode 0xCF s

/-- Opcode 0xD0 (R95). -/
def execUnhandledD0 (s : State) : Host.Outcome State Fault Refusal := unhandledOpcode 0xD0 s

/-- Opcode 0xD1 (R95). -/
def execUnhandledD1 (s : State) : Host.Outcome State Fault Refusal := unhandledOpcode 0xD1 s

/-- Opcode 0xD2 (R95). -/
def execUnhandledD2 (s : State) : Host.Outcome State Fault Refusal := unhandledOpcode 0xD2 s

/-- Opcode 0xD3 (R95). -/
def execUnhandledD3 (s : State) : Host.Outcome State Fault Refusal := unhandledOpcode 0xD3 s

/-- Opcode 0xD4 (R95). -/
def execUnhandledD4 (s : State) : Host.Outcome State Fault Refusal := unhandledOpcode 0xD4 s

/-- Opcode 0xD5 (R95). -/
def execUnhandledD5 (s : State) : Host.Outcome State Fault Refusal := unhandledOpcode 0xD5 s

/-- Opcode 0xD6 (R95). -/
def execUnhandledD6 (s : State) : Host.Outcome State Fault Refusal := unhandledOpcode 0xD6 s

/-- Opcode 0xD7 (R95). -/
def execUnhandledD7 (s : State) : Host.Outcome State Fault Refusal := unhandledOpcode 0xD7 s

/-- Opcode 0xD8 (R95). -/
def execUnhandledD8 (s : State) : Host.Outcome State Fault Refusal := unhandledOpcode 0xD8 s

/-- Opcode 0xD9 (R95). -/
def execUnhandledD9 (s : State) : Host.Outcome State Fault Refusal := unhandledOpcode 0xD9 s

/-- Opcode 0xDA (R95). -/
def execUnhandledDA (s : State) : Host.Outcome State Fault Refusal := unhandledOpcode 0xDA s

/-- Opcode 0xDB (R95). -/
def execUnhandledDB (s : State) : Host.Outcome State Fault Refusal := unhandledOpcode 0xDB s

/-- Opcode 0xDC (R95). -/
def execUnhandledDC (s : State) : Host.Outcome State Fault Refusal := unhandledOpcode 0xDC s

/-- Opcode 0xDD (R95). -/
def execUnhandledDD (s : State) : Host.Outcome State Fault Refusal := unhandledOpcode 0xDD s

/-- Opcode 0xDE (R95). -/
def execUnhandledDE (s : State) : Host.Outcome State Fault Refusal := unhandledOpcode 0xDE s

/-- Opcode 0xDF (R95). -/
def execUnhandledDF (s : State) : Host.Outcome State Fault Refusal := unhandledOpcode 0xDF s

/-- Opcode 0xE0 (R95). -/
def execUnhandledE0 (s : State) : Host.Outcome State Fault Refusal := unhandledOpcode 0xE0 s

/-- Opcode 0xE1 (R95). -/
def execUnhandledE1 (s : State) : Host.Outcome State Fault Refusal := unhandledOpcode 0xE1 s

/-- Opcode 0xE2 (R95). -/
def execUnhandledE2 (s : State) : Host.Outcome State Fault Refusal := unhandledOpcode 0xE2 s

/-- Opcode 0xE3 (R95). -/
def execUnhandledE3 (s : State) : Host.Outcome State Fault Refusal := unhandledOpcode 0xE3 s

/-- Opcode 0xE4 (R95). -/
def execUnhandledE4 (s : State) : Host.Outcome State Fault Refusal := unhandledOpcode 0xE4 s

/-- Opcode 0xE5 (R95). -/
def execUnhandledE5 (s : State) : Host.Outcome State Fault Refusal := unhandledOpcode 0xE5 s

/-- Opcode 0xE6 (R95). -/
def execUnhandledE6 (s : State) : Host.Outcome State Fault Refusal := unhandledOpcode 0xE6 s

/-- Opcode 0xE7 (R95). -/
def execUnhandledE7 (s : State) : Host.Outcome State Fault Refusal := unhandledOpcode 0xE7 s

/-- Opcode 0xE8 (R95). -/
def execUnhandledE8 (s : State) : Host.Outcome State Fault Refusal := unhandledOpcode 0xE8 s

/-- Opcode 0xE9 (R95). -/
def execUnhandledE9 (s : State) : Host.Outcome State Fault Refusal := unhandledOpcode 0xE9 s

/-- Opcode 0xEA (R95). -/
def execUnhandledEA (s : State) : Host.Outcome State Fault Refusal := unhandledOpcode 0xEA s

/-- Opcode 0xEB (R95). -/
def execUnhandledEB (s : State) : Host.Outcome State Fault Refusal := unhandledOpcode 0xEB s

/-- Opcode 0xEC (R95). -/
def execUnhandledEC (s : State) : Host.Outcome State Fault Refusal := unhandledOpcode 0xEC s

/-- Opcode 0xED (R95). -/
def execUnhandledED (s : State) : Host.Outcome State Fault Refusal := unhandledOpcode 0xED s

/-- Opcode 0xEE (R95). -/
def execUnhandledEE (s : State) : Host.Outcome State Fault Refusal := unhandledOpcode 0xEE s

/-- Opcode 0xEF (R95). -/
def execUnhandledEF (s : State) : Host.Outcome State Fault Refusal := unhandledOpcode 0xEF s

/-- Opcode 0xF0 (R95). -/
def execUnhandledF0 (s : State) : Host.Outcome State Fault Refusal := unhandledOpcode 0xF0 s

/-- Opcode 0xF1 (R95). -/
def execUnhandledF1 (s : State) : Host.Outcome State Fault Refusal := unhandledOpcode 0xF1 s

/-- Opcode 0xF2 (R95). -/
def execUnhandledF2 (s : State) : Host.Outcome State Fault Refusal := unhandledOpcode 0xF2 s

/-- Opcode 0xF3 (R95). -/
def execUnhandledF3 (s : State) : Host.Outcome State Fault Refusal := unhandledOpcode 0xF3 s

/-- Opcode 0xF4 (R95). -/
def execUnhandledF4 (s : State) : Host.Outcome State Fault Refusal := unhandledOpcode 0xF4 s

/-- Opcode 0xF5 (R95). -/
def execUnhandledF5 (s : State) : Host.Outcome State Fault Refusal := unhandledOpcode 0xF5 s

/-- Opcode 0xF6 (R95). -/
def execUnhandledF6 (s : State) : Host.Outcome State Fault Refusal := unhandledOpcode 0xF6 s

/-- Opcode 0xF7 (R95). -/
def execUnhandledF7 (s : State) : Host.Outcome State Fault Refusal := unhandledOpcode 0xF7 s

/-- Opcode 0xF8 (R95). -/
def execUnhandledF8 (s : State) : Host.Outcome State Fault Refusal := unhandledOpcode 0xF8 s

/-- Opcode 0xF9 (R95). -/
def execUnhandledF9 (s : State) : Host.Outcome State Fault Refusal := unhandledOpcode 0xF9 s

/-- Opcode 0xFA (R95). -/
def execUnhandledFA (s : State) : Host.Outcome State Fault Refusal := unhandledOpcode 0xFA s

/-- Opcode 0xFB (R95). -/
def execUnhandledFB (s : State) : Host.Outcome State Fault Refusal := unhandledOpcode 0xFB s

/-- Opcode 0xFC (R95). -/
def execUnhandledFC (s : State) : Host.Outcome State Fault Refusal := unhandledOpcode 0xFC s

/-- Opcode 0xFD (R95). -/
def execUnhandledFD (s : State) : Host.Outcome State Fault Refusal := unhandledOpcode 0xFD s

/-- Opcode 0xFE (R95). -/
def execUnhandledFE (s : State) : Host.Outcome State Fault Refusal := unhandledOpcode 0xFE s

/-- Opcode 0xFF (R95). -/
def execUnhandledFF (s : State) : Host.Outcome State Fault Refusal := unhandledOpcode 0xFF s

end Sys2Proof.Machine
end

