-- ==== Sys2Proof/Machine/Step.lean ====
section
/-! DEFINITION. One step (spec/40_engine_primitives.md R67), and the placing of a table word where it fetches. -/

namespace Sys2Proof.Machine

/-- `step()`: in a Running state the instruction at the program counter runs, whole; in any other state nothing happens
(R66, R67, R112; decision D13; log 4). -/
def step (s : State) : Host.Outcome State Fault Refusal :=
  if s.running then exec (fetchInstr s) s else .next s

/-- `s` with a table word stored at the program counter, and Running, so that the next step runs it (log 9). -/
def State.withFetchWord (s : State) (nbits w : Nat) : State := (s.storeCode s.pc (tableBytes nbits w)).awake

end Sys2Proof.Machine
end

