-- ==== Sys2Proof/Machine/Reference.lean ====
section
/-! DEFINITION. `Step()` as spec/40_engine_primitives.md R67 writes it: the opcode is fetched, the decoder sees that byte
alone, and each instruction's own rule fetches its operands from memory. `step` runs the same instructions with the
operands already in their syntax; that the two agree is a statement (log 6). -/

namespace Sys2Proof.Machine

/-- The pseudocode of each decoder result, after the opcode fetch that left `addr` and `op` (R85, R86, R87, R90, R95). -/
def handler (c : OpClass) (addr : Word) (op : Byte) (s : State) : Access Unit :=
  match c with
  | .ldaIm => (fetchByte s).bind loadA
  | .ldaZp => (fetchByte s).bind fun b1 s => (readByte (eaZp b1) s).bind loadA
  | .ldaZpx => (fetchByte s).bind fun b1 s =>
      (internalCycle s).bind fun _ s => (readByte (eaZpx b1 s.x) s).bind loadA
  | .jsr => (fetchWord s).bind callTo
  | .unhandled => .ok () (s.report (.unhandledOpcode op addr))

/-- `Step()` (R67), meant for a Running state. -/
def specStep (s : State) : Host.Outcome State Fault Refusal :=
  ((fetchByte s).bind fun op t => handler (decodeClass op) s.pc op t).settle

end Sys2Proof.Machine
end

