-- ==== Sys2Proof/Machine/Session.lean ====
section
/-! DEFINITION. The host's operations on the core (spec/60_exceptions.md section 8, spec/70_reset_and_hazards.md). They
happen between steps, never during one (R116). -/

namespace Sys2Proof.Machine

/-- The loop of `execute()` with at most `n` steps (R65). -/
def runLoop : Nat → State → Host.Outcome State Fault Refusal
  | 0, s => .next s
  | n + 1, s =>
    if s.running then
      match step s with
      | .next t => runLoop n t
      | .fault f => .fault f
      | .refused r => .refused r
    else .next s

/-- `execute()`: steps until the state is not Running (R65, R111). Every step takes at least one cycle, so the loop makes
at most `CYC` steps (R65). -/
def execute (s : State) : Host.Outcome State Fault Refusal := runLoop s.cyc.toNat s

/-- `load(address, bytes)`: byte writes to memory, nothing else (R113). A byte at an address out of range refuses the load
(U4; log 10). -/
def hostLoad (addr : Nat) (bytes : List Byte) (s : State) : Host.Outcome State Fault Refusal :=
  match memWriteBytes s.mem addr bytes with
  | .ok m => .next (s.setMem m)
  | .error (.outOfRange bad) => .refused (.loadOutOfRange bad)

/-- The transactions of the host that act on the core (R110). -/
inductive Request where
  | reset (budget : Int)
  | load (addr : Nat) (bytes : List Byte)
  | execute
  | step
  deriving DecidableEq, Repr

/-- A session: its state, which has no value before the first reset (R25; log 7). -/
abbrev Session := Option State

/-- A session with a value. -/
def Session.started : Host.Outcome State Fault Refusal → Host.Outcome Session Fault Refusal
  | .next s => .next (some s)
  | .fault f => .fault f
  | .refused r => .refused r

/-- One transaction: reset is legal always (R114), everything else only after a reset (R25, R127). -/
def Session.perform (r : Request) (session : Session) : Host.Outcome Session Fault Refusal :=
  match r, session with
  | .reset budget, _ => .next (some (State.resetWith budget))
  | _, none => .refused .beforeReset
  | .load addr bytes, some s => Session.started (hostLoad addr bytes s)
  | .execute, some s => Session.started (execute s)
  | .step, some s => Session.started (step s)

/-- What `step()` returns to the host: whether the session it leaves is still Running (R112). -/
def stepReply (s : State) : Bool :=
  match step s with
  | .next t => t.running
  | .fault _ => false
  | .refused _ => false

/-- What `execute()` returns to the host: nothing on success, the failure otherwise (R111; its text is the host's, U5). -/
def executeReply (s : State) : Option Fault :=
  match execute s with
  | .next t => t.fault
  | .fault f => some f
  | .refused _ => none

/-- What the inspection accessors show besides memory (R115). -/
structure Inspection where
  pc : Word
  sp : Byte
  a : Byte
  x : Byte
  y : Byte
  flagC : Bool
  flagZ : Bool
  flagI : Bool
  flagD : Bool
  flagB : Bool
  flagV : Bool
  flagN : Bool
  cyc : Int
  deriving DecidableEq, Repr

/-- The inspection accessors: they change nothing and cost no cycle (R115). -/
def inspect (s : State) : Inspection :=
  { pc := s.pc, sp := s.sp, a := s.a, x := s.x, y := s.y, flagC := s.flagC, flagZ := s.flagZ, flagI := s.flagI,
    flagD := s.flagD, flagB := s.flagB, flagV := s.flagV, flagN := s.flagN, cyc := s.cyc }

/-- A memory byte as the host reads it, through the same bounds check (R115, R30). -/
def inspectByte (addr : Nat) (s : State) : Except Fault Byte := memRead s.mem addr

/-- The status port (R110). -/
def status (s : State) : RunState := s.runState

end Sys2Proof.Machine
end

