-- ==== Sys2Proof/Safety.lean ====
section
/-! DEFINITION. What counts as a good state and a good end of a run (spec/10_state.md R26, spec/60_exceptions.md R101,
R117), in the terms the statements use. -/

namespace Sys2Proof.Machine

/-- The latch, where set, holds an address outside memory (R19). -/
def latchValid (s : State) : Prop :=
  ∀ addr, s.fault = some (.outOfRange addr) → Config.maxMem ≤ addr

/-- What every state of the machine's data keeps: memory in canonical form, the latch as R19 says. -/
structure Inv (s : State) : Prop where
  memWf : s.mem.wf = true
  latch : latchValid s

/-- What holds of every state reachable from a reset by steps and loads, and of no arbitrary state: `X` and `Y` are zero
(R11), the five flags no instruction writes are zero (R15), nothing has faulted (R102). -/
structure Unfaulted (s : State) : Prop where
  x : s.x = 0x00
  y : s.y = 0x00
  flagC : s.flagC = false
  flagI : s.flagI = false
  flagD : s.flagD = false
  flagB : s.flagB = false
  flagV : s.flagV = false
  fault : s.fault = none

/-- A state with everything no instruction reads set to zero: `A`, `Y`, the flags and `DIAG` (R11, R15, R20). -/
def maskUnread (s : State) : State :=
  { s with a := 0x00, y := 0x00, flagC := false, flagZ := false, flagI := false, flagD := false, flagB := false,
           flagV := false, flagN := false, diag := [] }

/-- A good end of a run: Halted (R117). -/
def EndedWell (s : State) : Prop := s.runState = .halted

end Sys2Proof.Machine
end

