-- ==== Sys2Proof/Certificates/Slice0/Obligations.lean ====
section
/-! DEFINITION. The statements for the provers, in the order of OBLIGATIONS.json. Each docstring says what the statement
formalises; the rules and sections are in OBLIGATIONS.json. -/

open Sys2Proof Sys2Proof.Machine

/-- Decoding the encoding of any instruction gives it back, with the bytes after it. Derived from: 30_encoding.md
section 1 (lengths and formats), 30_encoding.md section 2 (operand assembly), 30_encoding.md section 3 (the opcode
table). -/
def Obligations.DecodeOfEncode : Prop :=
  ∀ (i : Instr) (rest : List Byte), decode (encode i ++ rest) = .ok (i, rest)

/-- Whatever the decoder reads from a list of bytes encodes to exactly the bytes it took. Derived from: 30_encoding.md
section 1 (lengths and formats), 30_encoding.md section 3 (opcode values are unique keys). -/
def Obligations.EncodeOfDecode : Prop :=
  ∀ (bytes : List Byte) (i : Instr) (rest : List Byte), decode bytes = .ok (i, rest) → bytes = encode i ++ rest

/-- The decoder table: four opcodes with operands, lengths and costs, every other byte Unhandled (partly the spec's
and model's own, logs 6, 13). The spec says of its table: "the binary, format, length and rule columns and the last
row are this spec's, derived from §4.4". The operand clauses rest on log 6 (DEDUCED), the Unhandled byte kept by its
constructor on log 13 (DESIGN CHOICE). Derived from: 30_encoding.md section 3 (the opcode table; its format and length
columns and last row are the spec's own, derived), 30_encoding.md section 2 (operand assembly),
notes/assumptions/6.md, notes/assumptions/13.md. -/
def Obligations.DecoderTable : Prop :=
  (∀ b1 b2 : Byte, decodeOp 0xA9 b1 b2 = .ldaIm b1 ∧ decodeOp 0xA5 b1 b2 = .ldaZp b1 ∧
    decodeOp 0xB5 b1 b2 = .ldaZpx b1 ∧ decodeOp 0x20 b1 b2 = .jsr (wordOf b2 b1)) ∧
  (decodeClass 0xA9 = .ldaIm ∧ opLength 0xA9 = 2 ∧ OpClass.ldaIm.format = .opB ∧ OpClass.ldaIm.cycles = 2) ∧
  (decodeClass 0xA5 = .ldaZp ∧ opLength 0xA5 = 2 ∧ OpClass.ldaZp.format = .opB ∧ OpClass.ldaZp.cycles = 3) ∧
  (decodeClass 0xB5 = .ldaZpx ∧ opLength 0xB5 = 2 ∧ OpClass.ldaZpx.format = .opB ∧ OpClass.ldaZpx.cycles = 4) ∧
  (decodeClass 0x20 = .jsr ∧ opLength 0x20 = 3 ∧ OpClass.jsr.format = .opW ∧ OpClass.jsr.cycles = 6) ∧
  (∀ op b1 b2 : Byte, op ≠ 0xA9 → op ≠ 0xA5 → op ≠ 0xB5 → op ≠ 0x20 →
    decodeClass op = .unhandled ∧ (decodeOp op b1 b2).opcode = op ∧ opLength op = 1 ∧
    OpClass.unhandled.format = .op ∧ OpClass.unhandled.cycles = 1)

/-- The decoder refuses a list of bytes exactly where the opcode or one of its operand bytes is missing. Derived from:
30_encoding.md section 1 (lengths and formats), 30_encoding.md section 5 (variable length). -/
def Obligations.TruncatedBytesRefused : Prop :=
  decode [] = .error .empty ∧
  ∀ (op : Byte) (rest : List Byte),
    (decode (op :: rest) = .error (.truncated op) ↔ (op :: rest).length < opLength op) ∧
    ((∃ i rest', decode (op :: rest) = .ok (i, rest')) ↔ opLength op ≤ (op :: rest).length)

/-- Byte sequences written out from the opcode table decode to the instructions they stand for. Derived from:
30_encoding.md section 3 (the opcode table), 30_encoding.md section 5 (variable length), 95_test_vectors.md section 2.
-/
def Obligations.SampleWordsDecode : Prop :=
  decode [0xA9, 0x84] = .ok (.ldaIm 0x84, []) ∧ decode [0xA5, 0x10] = .ok (.ldaZp 0x10, []) ∧
  decode [0xB5, 0xF0] = .ok (.ldaZpx 0xF0, []) ∧ decode [0x20, 0x34, 0x12] = .ok (.jsr 0x1234, []) ∧
  decode [0xAD, 0x20, 0x42, 0x42] = .ok (.unhandledAD, [0x20, 0x42, 0x42]) ∧
  decode [0x20, 0x42, 0x42] = .ok (.jsr 0x4242, [])

/-- In a Running state, step is exec of the instruction the bytes at the program counter decode to (the model's own
form, log 6). That the step decodes the three bytes at PC, and that exec is the whole step, is the model's own choice
(log 6, DEDUCED); in the spec each rule fetches its own operands. Derived from: notes/assumptions/6.md,
40_engine_primitives.md section 1 (the loop and the step), 30_encoding.md section 1 (lengths and formats). -/
def Obligations.StepRunsDecoded : Prop :=
  ∀ (s : State) (i : Instr) (rest : List Byte), s.running = true →
    decode [s.mem.read s.pc.toNat, s.mem.read (s.pc + 1).toNat, s.mem.read (s.pc + 2).toNat] = .ok (i, rest) →
    step s = exec i s

/-- In a Running state, step is the Step() pseudocode: fetch the opcode, decode that byte alone, let its rule fetch
operands. That operands are part of Instr, so that step decodes them before it runs the rule, is the model's own
choice (log 6, DEDUCED). Derived from: 40_engine_primitives.md section 1 (the loop and the step), 41_load.md,
42_control_transfer.md, 43_unhandled.md, 30_encoding.md section 1 (operand bytes are fetched by the instruction's own
rule). -/
def Obligations.StepIsTheSpecsPseudocode : Prop :=
  ∀ s : State, s.running = true → step s = specStep s

/-- A step in a Halted or Faulted state changes nothing and replies false (the spec's own decision D13). Derived from:
92_eei_decisions.md D13, 60_exceptions.md section 8 (step()). -/
def Obligations.StepOutsideRunningDoesNothing : Prop :=
  ∀ s : State, s.fault ≠ none ∨ s.cyc ≤ 0 → step s = .next s ∧ stepReply s = false

/-- Every step from every state answers a next state, and no step sets the fault latch. Derived from: 60_exceptions.md
section 2 (with MAX_MEM = 65536 the core itself never raises OutOfRange). -/
def Obligations.StepAlwaysAnswersUnfaulted : Prop :=
  ∀ s : State, ∃ t : State, step s = .next t ∧ t.fault = s.fault

/-- LDA immediate: encoding, whole-step effect, and the step that meets it in memory. Formalises: R85. -/
def Obligations.LdaImmediate : Prop :=
  (∀ (b1 : Byte) (s : State), encode (.ldaIm b1) = [0xA9, b1] ∧
    exec (.ldaIm b1) s = .next { s with
      a := b1, flagZ := decide (b1 = 0x00), flagN := b1.getLsbD 7, pc := s.pc + 2, cyc := s.cyc - 2 }) ∧
  (∀ s : State, s.running = true → s.mem.read s.pc.toNat = 0xA9 →
    step s = .next { s with
      a := s.mem.read (s.pc + 1).toNat, flagZ := decide (s.mem.read (s.pc + 1).toNat = 0x00),
      flagN := (s.mem.read (s.pc + 1).toNat).getLsbD 7, pc := s.pc + 2, cyc := s.cyc - 2 })

/-- LDA zero-page: encoding, whole-step effect, and the step that meets it in memory. Formalises: R86. -/
def Obligations.LdaZeroPage : Prop :=
  (∀ (b1 : Byte) (s : State), encode (.ldaZp b1) = [0xA5, b1] ∧
    exec (.ldaZp b1) s = .next { s with
      a := s.mem.read b1.toNat, flagZ := decide (s.mem.read b1.toNat = 0x00),
      flagN := (s.mem.read b1.toNat).getLsbD 7, pc := s.pc + 2, cyc := s.cyc - 3 }) ∧
  (∀ (s : State) (b1 : Byte), s.running = true → s.mem.read s.pc.toNat = 0xA5 →
    s.mem.read (s.pc + 1).toNat = b1 →
    step s = .next { s with
      a := s.mem.read b1.toNat, flagZ := decide (s.mem.read b1.toNat = 0x00),
      flagN := (s.mem.read b1.toNat).getLsbD 7, pc := s.pc + 2, cyc := s.cyc - 3 })

/-- LDA zero-page,X: encoding, whole-step effect for every X, and the step that meets it in memory. Formalises: R87. -/
def Obligations.LdaZeroPageX : Prop :=
  (∀ (b1 : Byte) (s : State), encode (.ldaZpx b1) = [0xB5, b1] ∧
    exec (.ldaZpx b1) s = .next { s with
      a := s.mem.read ((b1.toNat + s.x.toNat) % 256), flagZ := decide (s.mem.read ((b1.toNat + s.x.toNat) % 256) = 0x00),
      flagN := (s.mem.read ((b1.toNat + s.x.toNat) % 256)).getLsbD 7, pc := s.pc + 2, cyc := s.cyc - 4 }) ∧
  (∀ (s : State) (b1 : Byte), s.running = true → s.mem.read s.pc.toNat = 0xB5 →
    s.mem.read (s.pc + 1).toNat = b1 →
    step s = .next { s with
      a := s.mem.read ((b1.toNat + s.x.toNat) % 256), flagZ := decide (s.mem.read ((b1.toNat + s.x.toNat) % 256) = 0x00),
      flagN := (s.mem.read ((b1.toNat + s.x.toNat) % 256)).getLsbD 7, pc := s.pc + 2, cyc := s.cyc - 4 })

/-- The LDA flag law: Z and N are those of the loaded value, no other flag changes, and the forms differ in cycles
only. Formalises: R88. -/
def Obligations.LdaFlagLaw : Prop :=
  ∀ (i : Instr) (b1 : Byte) (k : Int) (s : State),
    (i = .ldaIm b1 ∧ k = 2) ∨ (i = .ldaZp b1 ∧ k = 3) ∨ (i = .ldaZpx b1 ∧ k = 4) →
    ∃ t : State, exec i s = .next t ∧ t.flagZ = decide (t.a = 0x00) ∧ t.flagN = t.a.getLsbD 7 ∧
      t.flagC = s.flagC ∧ t.flagI = s.flagI ∧ t.flagD = s.flagD ∧ t.flagB = s.flagB ∧ t.flagV = s.flagV ∧
      t.pc = s.pc + 2 ∧ t.cyc = s.cyc - k ∧ t.x = s.x ∧ t.y = s.y ∧ t.sp = s.sp ∧ t.fault = s.fault ∧
      t.diag = s.diag ∧ t.mem = s.mem

/-- Frame of the three LDA forms: only A, Z, N, PC and CYC may change. Derived from: 41_load.md, 10_state.md section 2
(general registers), 10_state.md section 4 (flags). -/
def Obligations.LdaFrame : Prop :=
  ∀ (i : Instr) (b1 : Byte) (s t : State), i = .ldaIm b1 ∨ i = .ldaZp b1 ∨ i = .ldaZpx b1 →
    exec i s = .next t →
    t.x = s.x ∧ t.y = s.y ∧ t.sp = s.sp ∧ t.flagC = s.flagC ∧ t.flagI = s.flagI ∧ t.flagD = s.flagD ∧
    t.flagB = s.flagB ∧ t.flagV = s.flagV ∧ t.fault = s.fault ∧ t.diag = s.diag ∧
    ∀ addr : Nat, t.mem.read addr = s.mem.read addr

/-- The zero-page LDA forms see no memory outside the zero page. Derived from: 10_state.md section 7 (which
instruction reaches which addresses), 20_memory.md section 5 (address map), 40_engine_primitives.md section 3
(addressing modes). -/
def Obligations.ZeroPageLoadsReadZeroPageOnly : Prop :=
  ∀ (b1 : Byte) (s : State) (m : Memory), (∀ addr ≤ 0x00FF, m.read addr = s.mem.read addr) →
    (∃ t t' : State, exec (.ldaZp b1) s = .next t ∧ exec (.ldaZp b1) { s with mem := m } = .next t' ∧
      t'.a = t.a ∧ t'.flagZ = t.flagZ ∧ t'.flagN = t.flagN) ∧
    (∃ t t' : State, exec (.ldaZpx b1) s = .next t ∧ exec (.ldaZpx b1) { s with mem := m } = .next t' ∧
      t'.a = t.a ∧ t'.flagZ = t.flagZ ∧ t'.flagN = t.flagN)

/-- JSR: encoding and whole-step effect, with the push as the spec's decisions D4 to D7 place it. Derived from:
42_control_transfer.md (JSR), 92_eei_decisions.md D4, D5, D6, D7. -/
def Obligations.JsrResult : Prop :=
  ∀ (t : Word) (s : State), encode (.jsr t) = [0x20, lowByte t, highByte t] ∧
    exec (.jsr t) s = .next { s with
      mem := (s.mem.write s.sp.toNat (lowByte (s.pc + 2))).write (s.sp.toNat + 1) (highByte (s.pc + 2)),
      sp := s.sp + 1, pc := t, cyc := s.cyc - 6 }

/-- The word JSR pushes reads back as the address of its last byte, low byte first (address by decision D5). Derived
from: 42_control_transfer.md (JSR), 20_memory.md section 2 (byte order), 92_eei_decisions.md D5, D7. -/
def Obligations.JsrPushReadsBack : Prop :=
  ∀ (t : Word) (s : State), ∃ u : State, exec (.jsr t) s = .next u ∧
    u.mem.read (stackAddr s.sp) = lowByte (s.pc + 2) ∧ u.mem.read (stackAddr s.sp + 1) = highByte (s.pc + 2) ∧
    memReadWord u.mem (stackAddr s.sp) = .ok (s.pc + 2)

/-- Frame of JSR: only SP, PC, CYC and the two bytes at the stack address may change. Derived from:
42_control_transfer.md (JSR), 10_state.md section 4 (flags), 20_memory.md section 4 (access widths). -/
def Obligations.JsrFrame : Prop :=
  ∀ (t : Word) (s u : State), exec (.jsr t) s = .next u →
    u.a = s.a ∧ u.x = s.x ∧ u.y = s.y ∧ u.flagC = s.flagC ∧ u.flagZ = s.flagZ ∧ u.flagI = s.flagI ∧
    u.flagD = s.flagD ∧ u.flagB = s.flagB ∧ u.flagV = s.flagV ∧ u.flagN = s.flagN ∧ u.fault = s.fault ∧
    u.diag = s.diag ∧
    ∀ a : Nat, stackAddr s.sp = a → ∀ addr : Nat, addr ≠ a → addr ≠ a + 1 → u.mem.read addr = s.mem.read addr

/-- Two calls in a row: the second push overwrites the high byte of the first return address (decisions D5, D6).
Derived from: 70_reset_and_hazards.md section 3 (overlapping pushes), 42_control_transfer.md (JSR), corner case (a),
92_eei_decisions.md D5, D6. -/
def Obligations.OverlappingPushes : Prop :=
  ∀ (t₁ t₂ : Word) (s : State), s.sp.toNat < 0xFF → ∃ u v : State,
    exec (.jsr t₁) s = .next u ∧ exec (.jsr t₂) u = .next v ∧
    v.mem.read s.sp.toNat = lowByte (s.pc + 2) ∧ v.mem.read (s.sp.toNat + 1) = lowByte (t₁ + 2) ∧
    v.mem.read (s.sp.toNat + 2) = highByte (t₁ + 2) ∧ v.sp = s.sp + 2

/-- A fetch sees the bytes a JSR has just pushed, with no delay. Derived from: 20_memory.md section 8 (instruction-
fetch coherence), 92_eei_decisions.md D5. -/
def Obligations.FetchSeesPushedBytes : Prop :=
  ∀ (t : Word) (s : State), t.toNat = stackAddr s.sp → ∃ u : State, exec (.jsr t) s = .next u ∧
    (∃ u', fetchByte u = .ok (lowByte (s.pc + 2)) u') ∧ (∃ u', fetchWord u = .ok (s.pc + 2) u')

/-- An Unhandled opcode reports its byte and address, moves PC by one, takes one cycle, does nothing else (event by
D12). Derived from: 43_unhandled.md, 60_exceptions.md section 3 (the diagnostic event), 92_eei_decisions.md D12. -/
def Obligations.UnhandledResult : Prop :=
  ∀ (i : Instr) (s : State), i.opcode ≠ 0x20 → i.opcode ≠ 0xA5 → i.opcode ≠ 0xA9 → i.opcode ≠ 0xB5 →
    encode i = [i.opcode] ∧
    exec i s = .next { s with
      pc := s.pc + 1, cyc := s.cyc - 1, diag := s.diag ++ [.unhandledOpcode i.opcode s.pc] }

/-- Frame of the Unhandled opcodes: only PC, CYC and DIAG may change. Derived from: 43_unhandled.md. -/
def Obligations.UnhandledFrame : Prop :=
  ∀ (i : Instr) (s t : State), i.opcode ≠ 0x20 → i.opcode ≠ 0xA5 → i.opcode ≠ 0xA9 → i.opcode ≠ 0xB5 →
    exec i s = .next t →
    t.a = s.a ∧ t.x = s.x ∧ t.y = s.y ∧ t.sp = s.sp ∧ t.flagC = s.flagC ∧ t.flagZ = s.flagZ ∧ t.flagI = s.flagI ∧
    t.flagD = s.flagD ∧ t.flagB = s.flagB ∧ t.flagV = s.flagV ∧ t.flagN = s.flagN ∧ t.fault = s.fault ∧
    (∃ e, t.diag = s.diag ++ [e]) ∧ ∀ addr : Nat, t.mem.read addr = s.mem.read addr

/-- An opcode not in the table: no failure, one event more, and the loop goes on. Formalises: R96. -/
def Obligations.UnhandledContinues : Prop :=
  ∀ s : State, s.running = true → s.mem.read s.pc.toNat ≠ 0x20 → s.mem.read s.pc.toNat ≠ 0xA5 →
    s.mem.read s.pc.toNat ≠ 0xA9 → s.mem.read s.pc.toNat ≠ 0xB5 →
    ∃ t : State, step s = .next t ∧ t.fault = none ∧ t.diag.length = s.diag.length + 1 ∧
      (0 < t.cyc → t.running = true) ∧ execute s = execute t

/-- Only the three LDA forms write A, Z and N. Derived from: 41_load.md (preamble), 10_state.md section 1 (summary
table). -/
def Obligations.OnlyLdaWritesAZN : Prop :=
  ∀ (i : Instr) (s : State), (∀ b1 : Byte, i ≠ .ldaIm b1 ∧ i ≠ .ldaZp b1 ∧ i ≠ .ldaZpx b1) →
    ∃ t : State, exec i s = .next t ∧ t.a = s.a ∧ t.flagZ = s.flagZ ∧ t.flagN = s.flagN

/-- Only JSR writes memory or the stack pointer. Derived from: 42_control_transfer.md (preamble),
40_engine_primitives.md section 3 (there is no store instruction). -/
def Obligations.OnlyJsrWritesMemoryAndSP : Prop :=
  ∀ (i : Instr) (s : State), (∀ t : Word, i ≠ .jsr t) →
    ∃ t : State, exec i s = .next t ∧ t.sp = s.sp ∧ t.mem = s.mem

/-- No step writes X, Y, C, I, D, B or V. Derived from: 10_state.md section 2 (general registers), 10_state.md section
4 (flags). -/
def Obligations.StepKeepsXYAndFiveFlags : Prop :=
  ∀ s : State, ∃ t : State, step s = .next t ∧ t.x = s.x ∧ t.y = s.y ∧ t.flagC = s.flagC ∧ t.flagI = s.flagI ∧
    t.flagD = s.flagD ∧ t.flagB = s.flagB ∧ t.flagV = s.flagV

/-- No step reads A, Y, any flag or DIAG: what a step does and writes is the same whatever they hold. Derived from:
10_state.md section 2 (A is read by no instruction, Y is neither read nor written), 10_state.md section 4 (no
instruction in scope reads any flag), 10_state.md section 5 (no rule of the core reads DIAG). -/
def Obligations.UnreadStateDoesNotMatter : Prop :=
  ∀ s s' : State, maskUnread s = maskUnread s' →
    ∃ t t' : State, step s = .next t ∧ step s' = .next t' ∧ maskUnread t = maskUnread t' ∧
      ((t.a = t'.a ∧ t.flagZ = t'.flagZ ∧ t.flagN = t'.flagN) ∨
        ((t.a = s.a ∧ t.flagZ = s.flagZ ∧ t.flagN = s.flagN) ∧
          (t'.a = s'.a ∧ t'.flagZ = s'.flagZ ∧ t'.flagN = s'.flagN))) ∧
      (t.y = s.y ∧ t.flagC = s.flagC ∧ t.flagI = s.flagI ∧ t.flagD = s.flagD ∧ t.flagB = s.flagB ∧ t.flagV = s.flagV) ∧
      (t'.y = s'.y ∧ t'.flagC = s'.flagC ∧ t'.flagI = s'.flagI ∧ t'.flagD = s'.flagD ∧ t'.flagB = s'.flagB ∧
        t'.flagV = s'.flagV) ∧
      ∃ d : List DiagEvent, t.diag = s.diag ++ d ∧ t'.diag = s'.diag ++ d

/-- The cycles the primitives of an instruction take are the cost the opcode table gives it. Derived from:
30_encoding.md section 3 (the cycle cost column), 70_reset_and_hazards.md section 4 (timing). -/
def Obligations.CycleCostIsTheTables : Prop :=
  (∀ (i : Instr) (s : State), ∃ t : State, exec i s = .next t ∧ t.cyc = s.cyc - i.cycles) ∧
  (∀ b1 : Byte, (Instr.ldaIm b1).cycles = 2 ∧ (Instr.ldaZp b1).cycles = 3 ∧ (Instr.ldaZpx b1).cycles = 4) ∧
  (∀ t : Word, (Instr.jsr t).cycles = 6) ∧
  (∀ i : Instr, i.opcode ≠ 0x20 → i.opcode ≠ 0xA5 → i.opcode ≠ 0xA9 → i.opcode ≠ 0xB5 → i.cycles = 1)

/-- A step of a Running state takes one to six cycles, so CYC never falls below -5. Derived from: 10_state.md section
5 (the remaining-cycle counter), 70_reset_and_hazards.md section 3 (budget overrun). -/
def Obligations.OverrunIsBounded : Prop :=
  ∀ s : State, s.running = true → ∃ t : State, step s = .next t ∧ s.cyc - 6 ≤ t.cyc ∧ t.cyc ≤ s.cyc - 1 ∧ -5 ≤ t.cyc

/-- Memory reads and writes fail with OutOfRange exactly at addresses of 65536 and above. Formalises: R30, R31. -/
def Obligations.BoundsProperty : Prop :=
  ∀ (m : Memory) (addr : Nat) (v : Byte),
    (memRead m addr = .error (.outOfRange addr) ↔ 65536 ≤ addr) ∧
    (memWrite m addr v = .error (.outOfRange addr) ↔ 65536 ≤ addr) ∧
    (addr < 65536 → memRead m addr = .ok (m.read addr) ∧ ∃ m', memWrite m addr v = .ok m')

/-- A memory write changes the byte it writes and no other, and every later read sees it. Formalises: R32. -/
def Obligations.ReadAfterWrite : Prop :=
  ∀ (m : Memory) (addr : Nat) (v : Byte),
    (65536 ≤ addr → memWrite m addr v = .error (.outOfRange addr)) ∧
    (addr < 65536 → ∃ m', memWrite m addr v = .ok m' ∧ memRead m' addr = .ok v ∧
      ∀ other : Nat, other ≠ addr → memRead m' other = memRead m other)

/-- WriteWord: little-endian, two cycles, reads back as the word written, OutOfRange where either byte is out of
memory. Formalises: R73. -/
def Obligations.WordWrite : Prop :=
  ∀ (s : State) (addr : Nat) (v : Word),
    (addr + 1 < 65536 → ∃ m : Memory, writeWord addr v s = .ok () { s with mem := m, cyc := s.cyc - 2 } ∧
      m.read addr = lowByte v ∧ m.read (addr + 1) = highByte v ∧ memReadWord m addr = .ok v ∧
      ∀ other : Nat, other ≠ addr → other ≠ addr + 1 → m.read other = s.mem.read other) ∧
    (65536 ≤ addr → writeWord addr v s = .raised (.outOfRange addr) s) ∧
    (addr + 1 = 65536 → ∃ m : Memory, writeWord addr v s = .raised (.outOfRange (addr + 1)) { s with mem := m })

/-- A word write at 65535 fails on its second byte and leaves the first byte old or new (free value, log 5). Derived
from: 93_implementation_defined.md U3, 92_eei_decisions.md D20, notes/assumptions/5.md. -/
def Obligations.FailedWordWriteLeavesLowByteOpen : Prop :=
  ∀ (s : State) (v : Word), ∃ m : Memory, writeWord 65535 v s = .raised (.outOfRange 65536) { s with mem := m } ∧
    (m.read 65535 = s.mem.read 65535 ∨ m.read 65535 = lowByte v) ∧
    ∀ other : Nat, other ≠ 65535 → m.read other = s.mem.read other

/-- FetchByte reads at PC, moves PC by one, takes a cycle; ReadByte reads and takes a cycle; neither fails (derived:
R102; wrap: D3). The pseudocode lets both raise OutOfRange; that neither can is the inference the spec marks as
derived in R102, and the wrap of PC is its decision D3 (log 11). Derived from: 40_engine_primitives.md section 2
(FetchByte, ReadByte), R102, 92_eei_decisions.md D3, notes/assumptions/11.md. -/
def Obligations.FetchAndReadPrimitives : Prop :=
  (∀ s : State, fetchByte s = .ok (s.mem.read s.pc.toNat) { s with pc := s.pc + 1, cyc := s.cyc - 1 }) ∧
  (∀ (addr : Word) (s : State), readByte addr s = .ok (s.mem.read addr.toNat) { s with cyc := s.cyc - 1 })

/-- FetchWord reads low byte then high byte at PC and PC + 1 modulo 2^16, moves PC by two, takes two cycles (wrap:
D3). Derived from: 40_engine_primitives.md section 2 (FetchWord), 20_memory.md section 2 (byte order),
92_eei_decisions.md D3. -/
def Obligations.FetchWordIsLittleEndian : Prop :=
  ∀ s : State, fetchWord s = .ok (wordOf (s.mem.read (s.pc + 1).toNat) (s.mem.read s.pc.toNat))
    { s with pc := s.pc + 2, cyc := s.cyc - 2 }

/-- Zero-page addresses: the operand zero-extended, or its 8-bit sum with X, never outside the zero page. Formalises:
R75, R76. -/
def Obligations.ZeroPageAddresses : Prop :=
  ∀ b1 x : Byte, (eaZp b1).toNat = b1.toNat ∧ (eaZp b1).toNat ≤ 0x00FF ∧
    (eaZpx b1 x).toNat = (b1.toNat + x.toNat) % 256 ∧ (eaZpx b1 x).toNat ≤ 0x00FF

/-- The stack address is the stack pointer zero-extended, and a word write there always completes (decision D5).
Derived from: 40_engine_primitives.md section 3 (stack address), 60_exceptions.md section 2, 92_eei_decisions.md D5.
-/
def Obligations.PushCannotFail : Prop :=
  ∀ sp : Byte, stackAddr sp = sp.toNat ∧
    ∀ (v : Word) (s : State), ∃ m : Memory, writeWord (stackAddr sp) v s = .ok () { s with mem := m, cyc := s.cyc - 2 }

/-- SetZN writes Z and N from the value and nothing else, and never leaves both set. Formalises: R78. -/
def Obligations.SetZNWritesTwoFlags : Prop :=
  ∀ (s : State) (v : Byte), s.setZN v = { s with flagZ := decide (v = 0x00), flagN := v.getLsbD 7 } ∧
    ¬ ((s.setZN v).flagZ = true ∧ (s.setZN v).flagN = true)

/-- Two memories in canonical form that read alike everywhere are the same data (the model's representation, log 2).
Derived from: 10_state.md section 7 (memory), 20_memory.md section 7 (memory ordering), notes/assumptions/2.md. -/
def Obligations.CanonicalMemoryIsUnique : Prop :=
  ∀ m m' : Memory, m.wf = true → m'.wf = true → (∀ addr : Nat, m.read addr = m'.read addr) → m = m'

/-- Reset with any budget: registers, flags and bytes at their stated values, CYC at the budget (State.reset: the
model's own budget 9, log 1). The last clause is the model's own choice (log 1, DESIGN CHOICE): the spec leaves the
budget to the host, and the 9 of State.reset is no value of the spec. That reset loads CYC and clears the latch and
the trace are the spec's decisions D9, D11, D12. Derived from: 10_state.md section 9 (reset values),
70_reset_and_hazards.md section 1 (reset), 92_eei_decisions.md D9, D11, D12, notes/assumptions/1.md. -/
def Obligations.ResetValues : Prop :=
  ∀ budget : Int,
    (State.resetWith budget).pc = 0xFFFC ∧ (State.resetWith budget).sp = 0x01 ∧ (State.resetWith budget).a = 0x00 ∧
    (State.resetWith budget).x = 0x00 ∧ (State.resetWith budget).y = 0x00 ∧
    (State.resetWith budget).flagC = false ∧ (State.resetWith budget).flagZ = false ∧
    (State.resetWith budget).flagI = false ∧ (State.resetWith budget).flagD = false ∧
    (State.resetWith budget).flagB = false ∧ (State.resetWith budget).flagV = false ∧
    (State.resetWith budget).flagN = false ∧ (∀ addr : Nat, (State.resetWith budget).mem.read addr = 0x00) ∧
    (State.resetWith budget).cyc = budget ∧ (State.resetWith budget).fault = none ∧
    (State.resetWith budget).diag = [] ∧ ((State.resetWith budget).runState = .running ↔ 0 < budget) ∧
    (State.resetWith budget).runState = (if 0 < budget then .running else .halted) ∧
    State.reset = State.resetWith 9

/-- The state after any reset meets both invariants (canonical memory is the model's own representation, log 2). The
canonical form of memory in Inv is the model's own representation (log 2, DESIGN CHOICE). Derived from: 10_state.md
section 9 (reset values), notes/assumptions/2.md. -/
def Obligations.ResetMeetsInvariants : Prop :=
  (∀ budget : Int, Inv (State.resetWith budget) ∧ Unfaulted (State.resetWith budget)) ∧ Inv State.reset ∧
    Unfaulted State.reset

/-- A table word placed where the step fetches is the next instruction run (the model's own helper, log 9). Derived
from: 40_engine_primitives.md section 1 (the loop and the step), 70_reset_and_hazards.md section 2 (boot
requirements), notes/assumptions/9.md. -/
def Obligations.PlacedWordRunsNext : Prop :=
  ∀ (s : State) (nbits w : Nat) (i : Instr), decodeTableWord nbits w = some i →
    step (s.withFetchWord nbits w) = exec i (s.withFetchWord nbits w) ∧
    (s.running = true → (s.withFetchWord nbits w).cyc = s.cyc ∧ (s.withFetchWord nbits w).fault = s.fault) ∧
    (s.withFetchWord nbits w).pc = s.pc

/-- Every step keeps memory in canonical form and the latch valid (canonical form: the model's own representation, log
2). The canonical form of memory in Inv is the model's own representation (log 2, DESIGN CHOICE). Derived from:
10_state.md section 9 (state invariants), 10_state.md section 5 (the fault latch), 20_memory.md section 1 (the memory
address decoder), notes/assumptions/2.md. -/
def Obligations.StepKeepsInv : Prop :=
  ∀ s t : State, Inv s → step s = .next t → Inv t

/-- Every step keeps X = Y = 0, the five inert flags 0 and the fault latch clear. Derived from: 10_state.md section 2
(X = Y = 0 in every reachable state), 10_state.md section 4 (C = V = D = I = B = 0 in every reachable state),
60_exceptions.md section 2 (FAULT = none as an invariant of every run from reset). -/
def Obligations.StepKeepsUnfaulted : Prop :=
  ∀ s t : State, Unfaulted s → step s = .next t → Unfaulted t

/-- A step only adds to DIAG, at most one event, and never clears a set latch (decisions D11, D12). Derived from:
10_state.md section 9 (state invariants), 10_state.md section 5 (fault latch and diagnostic trace),
92_eei_decisions.md D11, D12. -/
def Obligations.TraceGrowsAndLatchSticks : Prop :=
  ∀ s t : State, step s = .next t →
    s.diag <+: t.diag ∧ t.diag.length ≤ s.diag.length + 1 ∧ (s.fault ≠ none → t.fault = s.fault)

/-- execute always ends, outside Running, and well where nothing has faulted, overrunning by at most five cycles. The
end of a run is the spec's decision D29; the canonical form of memory in Inv is the model's own representation (log 2,
DESIGN CHOICE). Derived from: 40_engine_primitives.md section 1 (termination), 60_exceptions.md section 8 (execute,
the end of a run), 92_eei_decisions.md D29, notes/assumptions/2.md. -/
def Obligations.ExecuteEnds : Prop :=
  ∀ s : State, ∃ t : State, execute s = .next t ∧ t.running = false ∧ (s.running = false → t = s) ∧
    (s.fault = none → 1 ≤ s.cyc → EndedWell t ∧ t.fault = none ∧ -5 ≤ t.cyc ∧ t.cyc ≤ 0) ∧
    (Inv s → Inv t) ∧ (Unfaulted s → Unfaulted t)

/-- execute is step repeated, for any number of steps at least CYC (steps outside Running change nothing: D13).
Derived from: 60_exceptions.md section 8 (execute() is equal to calling step() until it returns false),
92_eei_decisions.md D13. -/
def Obligations.ExecuteIsRepeatedStep : Prop :=
  (∀ (s : State) (n : Nat), s.cyc ≤ n → execute s = Sys2Proof.core.run n s) ∧
  (∀ s t : State, s.running = true → step s = .next t → execute s = execute t)

/-- In memory that is all zero, execute takes one Unhandled step a byte until the cycles are gone. What an event
carries is the spec's decision D12 (log 12), the wrap of PC its decision D3 (log 11). Derived from:
70_reset_and_hazards.md section 3 (running off the program), 43_unhandled.md, 95_test_vectors.md P5,
92_eei_decisions.md D3, D12. -/
def Obligations.EmptyMemoryRunsOutTheBudget : Prop :=
  ∀ s : State, s.running = true → (∀ addr : Nat, s.mem.read addr = 0x00) →
    execute s = .next { s with
      pc := s.pc + BitVec.ofNat 16 s.cyc.toNat, cyc := 0,
      diag := s.diag ++ (List.range s.cyc.toNat).map fun k => .unhandledOpcode 0x00 (s.pc + BitVec.ofNat 16 k) }

/-- A host load writes its bytes and nothing else, keeps the invariants, or is refused out of range (D28; canonical
form: log 2). The refusal is the spec's decision D28 (log 10); the canonical form of memory in Inv is the model's own
representation (log 2, DESIGN CHOICE). Derived from: 60_exceptions.md section 8 (load), 92_eei_decisions.md D28,
93_implementation_defined.md U4, notes/assumptions/2.md. -/
def Obligations.LoadWritesItsBytes : Prop :=
  ∀ (s : State) (addr : Nat) (bytes : List Byte),
    (addr + bytes.length ≤ 65536 → ∃ m : Memory, hostLoad addr bytes s = .next { s with mem := m } ∧
      (∀ k, ∀ h : k < bytes.length, m.read (addr + k) = bytes[k]) ∧
      (∀ other : Nat, other < addr ∨ addr + bytes.length ≤ other → m.read other = s.mem.read other)) ∧
    (bytes ≠ [] → 65536 < addr + bytes.length →
      hostLoad addr bytes s = .refused (.loadOutOfRange (max addr 65536))) ∧
    (∀ t : State, hostLoad addr bytes s = .next t → (Inv s → Inv t) ∧ (Unfaulted s → Unfaulted t))

/-- Before the first reset every request but reset is refused, and reset is legal in every session (decision D15).
Derived from: 10_state.md section 9 (before the first reset), 60_exceptions.md section 8 (reset), 92_eei_decisions.md
D15. -/
def Obligations.SessionNeedsReset : Prop :=
  (∀ r : Request, (∀ budget, r ≠ .reset budget) → Session.perform r none = .refused .beforeReset) ∧
  (∀ (session : Session) (budget : Int), Session.perform (.reset budget) session = .next (some (State.resetWith budget)))

/-- A raised OutOfRange skips the rest of the step, sets the latch, changes nothing else, and no step follows (D11).
Derived from: 60_exceptions.md section 2 (OutOfRange: the fatal failure), 92_eei_decisions.md D11. -/
def Obligations.OutOfRangeEndsTheStep : Prop :=
  ∀ (f : Fault) (s : State),
    (∀ (α β : Type) (g : α → State → Access β), (Access.raised f s : Access α).bind g = .raised f s) ∧
    (Access.raised f s).settle = .next { s with fault := some f } ∧
    ({ s with fault := some f } : State).runState = .faulted f ∧
    step { s with fault := some f } = .next { s with fault := some f }

/-- The run state: Faulted with the latch set, else Running while CYC is positive, else Halted (Faulted: D11). Derived
from: 10_state.md section 5 (the run state), 92_eei_decisions.md D11. -/
def Obligations.RunStateIsAFunction : Prop :=
  ∀ s : State, (∀ f, s.fault = some f → s.runState = .faulted f) ∧
    (s.fault = none → (s.runState = .running ↔ 0 < s.cyc) ∧ (s.runState = .halted ↔ s.cyc ≤ 0))
end

