-- ==== Sys2Proof/Laws/Decode.lean ====
section
/-! SUPPORT. The decoder and its byte-order helpers: the instruction it reads has the opcode byte it was given, and each
of the four opcodes of the table of R55 carries the operand bytes of its format. -/

namespace Sys2Proof

/-! ### Bytes and words (R6) -/

@[simp] theorem wordOf_high_low (w : Word) : wordOf (highByte w) (lowByte w) = w := by
  apply BitVec.eq_of_getLsbD_eq
  intro i hi
  simp only [wordOf, highByte, lowByte, BitVec.getLsbD_append, BitVec.getLsbD_extractLsb']
  by_cases h : i < 8
  · simp [h]
  · simp [h, show i - 8 < 8 by omega, show 8 + (i - 8) = i by omega]

@[simp] theorem lowByte_wordOf (hi lo : Byte) : lowByte (wordOf hi lo) = lo := by
  apply BitVec.eq_of_getLsbD_eq
  intro i h
  simp only [lowByte, wordOf, BitVec.getLsbD_extractLsb', h, decide_true, Bool.true_and, Nat.zero_add,
    BitVec.getLsbD_append, if_true]

@[simp] theorem highByte_wordOf (hi lo : Byte) : highByte (wordOf hi lo) = hi := by
  apply BitVec.eq_of_getLsbD_eq
  intro i h
  have h8 : ¬ 8 + i < 8 := by omega
  simp only [highByte, wordOf, BitVec.getLsbD_extractLsb', h, decide_true, Bool.true_and, BitVec.getLsbD_append, h8,
    if_false, Nat.add_sub_cancel_left]

/-- A fact about every byte is a fact about 256 numerals. -/
theorem forall_byte {P : Byte → Prop} (h : ∀ n < 256, P (BitVec.ofNat 8 n)) (b : Byte) : P b := by
  have hb := h b.toNat b.isLt
  rwa [BitVec.ofNat_toNat, BitVec.setWidth_eq] at hb

/-! ### The decoder -/

/-- The instruction decoded from an opcode byte has that opcode byte. -/
@[simp] theorem decodeOp_opcode (op b1 b2 : Byte) : (decodeOp op b1 b2).opcode = op := by
  refine forall_byte (P := fun op => (decodeOp op b1 b2).opcode = op) ?_ op
  intro n hn
  interval_cases n <;> rfl

theorem decodeOp_ldaIm (b1 b2 : Byte) : decodeOp 0xA9 b1 b2 = .ldaIm b1 := rfl
theorem decodeOp_ldaZp (b1 b2 : Byte) : decodeOp 0xA5 b1 b2 = .ldaZp b1 := rfl
theorem decodeOp_ldaZpx (b1 b2 : Byte) : decodeOp 0xB5 b1 b2 = .ldaZpx b1 := rfl
theorem decodeOp_jsr (b1 b2 : Byte) : decodeOp 0x20 b1 b2 = .jsr (wordOf b2 b1) := rfl

/-- The five results of the decoder function, by opcode byte (R55). -/
theorem decodeClass_cases (op : Byte) :
    (op = 0xA9 ∧ decodeClass op = .ldaIm) ∨ (op = 0xA5 ∧ decodeClass op = .ldaZp) ∨
    (op = 0xB5 ∧ decodeClass op = .ldaZpx) ∨ (op = 0x20 ∧ decodeClass op = .jsr) ∨
    ((op ≠ 0xA9 ∧ op ≠ 0xA5 ∧ op ≠ 0xB5 ∧ op ≠ 0x20) ∧ decodeClass op = .unhandled) := by
  revert op
  decide

/-- An instruction is one to three bytes long (R59). -/
theorem opLength_bounds (op : Byte) : 1 ≤ opLength op ∧ opLength op ≤ longestInstr := by
  revert op
  decide

/-- An instruction is one of the four of R55 or has an Unhandled opcode. -/
theorem Instr.cases_class (i : Instr) :
    (∃ b1, i = .ldaIm b1) ∨ (∃ b1, i = .ldaZp b1) ∨ (∃ b1, i = .ldaZpx b1) ∨ (∃ t, i = .jsr t) ∨
    decodeClass i.opcode = .unhandled := by
  cases i <;> first
    | exact .inl ⟨_, rfl⟩
    | exact .inr (.inl ⟨_, rfl⟩)
    | exact .inr (.inr (.inl ⟨_, rfl⟩))
    | exact .inr (.inr (.inr (.inl ⟨_, rfl⟩)))
    | exact .inr (.inr (.inr (.inr rfl)))

/-- An Unhandled opcode has no operand bytes (R95). -/
theorem operands_of_unhandled {i : Instr} (h : decodeClass i.opcode = .unhandled) : i.operands = [] := by
  rcases i.cases_class with ⟨b, rfl⟩ | ⟨b, rfl⟩ | ⟨b, rfl⟩ | ⟨t, rfl⟩ | h'
  · cases h
  · cases h
  · cases h
  · cases h
  · cases i <;> first | rfl | cases h

end Sys2Proof
end

