-- ==== Sys2Proof/Laws/Memory.lean ====
section
/-! SUPPORT. Memory: reads after writes, for every list of cells, and the canonical form, which every operation keeps. -/

namespace Sys2Proof.Machine

/-! ### Reading after dropping, placing, writing -/

theorem Memory.read_drop_same (m : Memory) (addr : Nat) : (m.drop addr).read addr = Config.unlisted := by
  induction m with
  | nil => rfl
  | cons c m ih =>
    obtain ⟨k, b⟩ := c
    by_cases h : k = addr <;> simp [Memory.drop, Memory.read, h, ih]

theorem Memory.read_drop_other (m : Memory) {addr other : Nat} (h : other ≠ addr) :
    (m.drop addr).read other = m.read other := by
  induction m with
  | nil => rfl
  | cons c m ih =>
    obtain ⟨k, b⟩ := c
    by_cases hk : k = addr
    · have hko : k ≠ other := fun e => h (e ▸ hk)
      simp [Memory.drop, Memory.read, hk, ih, hk ▸ hko]
    · by_cases ho : k = other
      · subst ho
        simp [Memory.drop, Memory.read, hk]
      · simp [Memory.drop, Memory.read, hk, ho, ih]

theorem Memory.read_place_other (m : Memory) {addr other : Nat} (v : Byte) (h : other ≠ addr) :
    (m.place addr v).read other = m.read other := by
  induction m with
  | nil => simp [Memory.place, Memory.read, Ne.symm h]
  | cons c m ih =>
    obtain ⟨k, b⟩ := c
    by_cases hk : addr < k
    · simp [Memory.place, Memory.read, hk, Ne.symm h]
    · by_cases ho : k = other
      · subst ho
        simp [Memory.place, Memory.read, hk]
      · simp [Memory.place, Memory.read, hk, ho, ih]

theorem Memory.read_place_drop (m : Memory) (addr : Nat) (v : Byte) : ((m.drop addr).place addr v).read addr = v := by
  induction m with
  | nil => simp [Memory.drop, Memory.place, Memory.read]
  | cons c m ih =>
    obtain ⟨k, b⟩ := c
    by_cases hk : k = addr
    · simpa [Memory.drop, hk] using ih
    · by_cases hl : addr < k <;> simp [Memory.drop, Memory.place, Memory.read, hk, hl, ih]

/-- A read gives the byte last written there (R32, R41). -/
@[simp] theorem Memory.read_write_same (m : Memory) (addr : Nat) (v : Byte) : (m.write addr v).read addr = v := by
  unfold Memory.write
  split
  · next h => rw [Memory.read_drop_same, h]
  · exact Memory.read_place_drop m addr v

/-- A write leaves every other address alone (R32). -/
theorem Memory.read_write_other (m : Memory) {addr other : Nat} (v : Byte) (h : other ≠ addr) :
    (m.write addr v).read other = m.read other := by
  unfold Memory.write
  split
  · exact Memory.read_drop_other m h
  · rw [Memory.read_place_other _ v h, Memory.read_drop_other m h]

/-- What a write leaves at every address. -/
theorem Memory.read_write (m : Memory) (addr other : Nat) (v : Byte) :
    (m.write addr v).read other = if other = addr then v else m.read other := by
  by_cases h : other = addr
  · simp [h]
  · simp [h, Memory.read_write_other m v h]

/-! ### The bus primitives -/

theorem addrValid_iff (addr : Nat) : addrValid addr = true ↔ addr < Config.maxMem := by simp [addrValid]

theorem memRead_eq (m : Memory) {addr : Nat} (h : addr < Config.maxMem) : memRead m addr = .ok (m.read addr) := by
  simp [memRead, (addrValid_iff addr).mpr h]

theorem memWrite_eq (m : Memory) {addr : Nat} (v : Byte) (h : addr < Config.maxMem) :
    memWrite m addr v = .ok (m.write addr v) := by
  simp [memWrite, (addrValid_iff addr).mpr h]

theorem memRead_invalid (m : Memory) {addr : Nat} (h : Config.maxMem ≤ addr) :
    memRead m addr = .error (.outOfRange addr) := by
  simp [memRead, addrValid, Nat.not_lt.mpr h]

theorem memWrite_invalid (m : Memory) {addr : Nat} (v : Byte) (h : Config.maxMem ≤ addr) :
    memWrite m addr v = .error (.outOfRange addr) := by
  simp [memWrite, addrValid, Nat.not_lt.mpr h]

theorem memWriteWord_eq (m : Memory) {addr : Nat} (w : Word) (h : addr + 1 < Config.maxMem) :
    memWriteWord m addr w = .ok ((m.write addr (lowByte w)).write (addr + 1) (highByte w)) := by
  simp [memWriteWord, memWrite_eq m _ (Nat.lt_of_succ_lt h), memWrite_eq _ _ h]

/-- Every program counter and every address of an operand is an address of memory (R102). -/
theorem word_lt_maxMem (w : Word) : w.toNat < Config.maxMem := w.isLt

/-! ### The canonical form -/

theorem Memory.wfFrom_le {lo lo' : Nat} (h : lo' ≤ lo) : ∀ {m : Memory}, m.wfFrom lo = true → m.wfFrom lo' = true
  | [], _ => rfl
  | (k, b) :: m, hm => by
    simp only [Memory.wfFrom, Bool.and_eq_true, decide_eq_true_eq] at hm ⊢
    exact ⟨⟨⟨h.trans hm.1.1.1, hm.1.1.2⟩, hm.1.2⟩, hm.2⟩

theorem Memory.wfFrom_drop {m : Memory} {lo : Nat} (addr : Nat) (h : m.wfFrom lo = true) :
    (m.drop addr).wfFrom lo = true := by
  induction m generalizing lo with
  | nil => rfl
  | cons c m ih =>
    obtain ⟨k, b⟩ := c
    simp only [Memory.wfFrom, Bool.and_eq_true, decide_eq_true_eq] at h
    by_cases hk : k = addr
    · simpa [Memory.drop, hk] using ih (Memory.wfFrom_le (h.1.1.1.trans (Nat.le_succ k)) h.2)
    · simp only [Memory.drop, hk, if_false, Memory.wfFrom, Bool.and_eq_true, decide_eq_true_eq]
      exact ⟨h.1, ih h.2⟩

theorem Memory.wfFrom_place_drop {m : Memory} {lo addr : Nat} {v : Byte} (h : m.wfFrom lo = true) (hlo : lo ≤ addr)
    (ha : addr < Config.maxMem) (hv : v ≠ Config.unlisted) : ((m.drop addr).place addr v).wfFrom lo = true := by
  induction m generalizing lo with
  | nil => simp [Memory.drop, Memory.place, Memory.wfFrom, hlo, ha, hv]
  | cons c m ih =>
    obtain ⟨k, b⟩ := c
    simp only [Memory.wfFrom, Bool.and_eq_true, decide_eq_true_eq] at h
    by_cases hk : k = addr
    · simpa [Memory.drop, hk] using ih (Memory.wfFrom_le (h.1.1.1.trans (Nat.le_succ k)) h.2) hlo
    · by_cases hl : addr < k
      · simp only [Memory.drop, hk, if_false, Memory.place, hl, if_true, Memory.wfFrom, Bool.and_eq_true,
          decide_eq_true_eq]
        exact ⟨⟨⟨hlo, ha⟩, hv⟩, ⟨⟨⟨hl, h.1.1.2⟩, h.1.2⟩, Memory.wfFrom_drop addr h.2⟩⟩
      · simp only [Memory.drop, hk, if_false, Memory.place, hl, Memory.wfFrom, Bool.and_eq_true, decide_eq_true_eq]
        exact ⟨h.1, ih h.2 (by omega)⟩

/-- A write at an address of memory keeps the canonical form. -/
theorem Memory.wf_write {m : Memory} {addr : Nat} (v : Byte) (h : m.wf = true) (ha : addr < Config.maxMem) :
    (m.write addr v).wf = true := by
  unfold Memory.write
  split
  · exact Memory.wfFrom_drop addr h
  · next hv => exact Memory.wfFrom_place_drop h (Nat.zero_le _) ha hv

theorem memWrite_wf {m m' : Memory} {addr : Nat} {v : Byte} (h : m.wf = true) (hw : memWrite m addr v = .ok m') :
    m'.wf = true := by
  by_cases ha : addr < Config.maxMem
  · rw [memWrite_eq m v ha] at hw
    injection hw with hw
    exact hw ▸ Memory.wf_write v h ha
  · rw [memWrite_invalid m v (Nat.le_of_not_lt ha)] at hw
    cases hw

theorem memWriteWord_wf {m m' : Memory} {addr : Nat} {w : Word} (h : m.wf = true)
    (hw : memWriteWord m addr w = .ok m') : m'.wf = true := by
  unfold memWriteWord at hw
  split at hw
  · cases hw
  · next m₁ h₁ => exact memWrite_wf (memWrite_wf h h₁) hw

theorem memAfterFailedWord_wf {m : Memory} (addr : Nat) (w : Word) (cyc : Int) (h : m.wf = true) :
    (memAfterFailedWord m addr w cyc).wf = true := by
  unfold memAfterFailedWord
  split
  · exact h
  · next m₁ h₁ =>
    split
    · exact memWrite_wf h h₁
    · exact h

theorem memWriteBytes_wf {m m' : Memory} {addr : Nat} {bytes : List Byte} (h : m.wf = true)
    (hw : memWriteBytes m addr bytes = .ok m') : m'.wf = true := by
  induction bytes generalizing m addr with
  | nil =>
    injection hw with hw
    exact hw ▸ h
  | cons b bs ih =>
    unfold memWriteBytes at hw
    split at hw
    · cases hw
    · next m₁ h₁ => exact ih (memWrite_wf h h₁) hw

theorem State.storeCode_wf {s : State} {addr : Word} {bytes : List Byte} (h : s.mem.wf = true) :
    (s.storeCode addr bytes).mem.wf = true := by
  induction bytes generalizing s addr with
  | nil => exact h
  | cons b bs ih => exact ih (Memory.wf_write b h (word_lt_maxMem addr))

/-- The memory after reset has the canonical form (R24). -/
theorem State.reset_mem_wf (budget : Int) : (State.resetWith budget).mem.wf = true := rfl

end Sys2Proof.Machine
end

