-- ==== Sys2Proof/Laws/State.lean ====
section
/-! SUPPORT. What each register update leaves in each field of the state, and what reset leaves there. -/

namespace Sys2Proof.Machine

/-! ### `setA` -/

@[simp] theorem State.setA_a (s : State) (v : Byte) : (s.setA v).a = v := rfl
@[simp] theorem State.setA_x (s : State) (v : Byte) : (s.setA v).x = s.x := rfl
@[simp] theorem State.setA_y (s : State) (v : Byte) : (s.setA v).y = s.y := rfl
@[simp] theorem State.setA_sp (s : State) (v : Byte) : (s.setA v).sp = s.sp := rfl
@[simp] theorem State.setA_pc (s : State) (v : Byte) : (s.setA v).pc = s.pc := rfl
@[simp] theorem State.setA_flagC (s : State) (v : Byte) : (s.setA v).flagC = s.flagC := rfl
@[simp] theorem State.setA_flagZ (s : State) (v : Byte) : (s.setA v).flagZ = s.flagZ := rfl
@[simp] theorem State.setA_flagI (s : State) (v : Byte) : (s.setA v).flagI = s.flagI := rfl
@[simp] theorem State.setA_flagD (s : State) (v : Byte) : (s.setA v).flagD = s.flagD := rfl
@[simp] theorem State.setA_flagB (s : State) (v : Byte) : (s.setA v).flagB = s.flagB := rfl
@[simp] theorem State.setA_flagV (s : State) (v : Byte) : (s.setA v).flagV = s.flagV := rfl
@[simp] theorem State.setA_flagN (s : State) (v : Byte) : (s.setA v).flagN = s.flagN := rfl
@[simp] theorem State.setA_cyc (s : State) (v : Byte) : (s.setA v).cyc = s.cyc := rfl
@[simp] theorem State.setA_fault (s : State) (v : Byte) : (s.setA v).fault = s.fault := rfl
@[simp] theorem State.setA_diag (s : State) (v : Byte) : (s.setA v).diag = s.diag := rfl
@[simp] theorem State.setA_mem (s : State) (v : Byte) : (s.setA v).mem = s.mem := rfl

/-! ### `setSP` -/

@[simp] theorem State.setSP_a (s : State) (v : Byte) : (s.setSP v).a = s.a := rfl
@[simp] theorem State.setSP_x (s : State) (v : Byte) : (s.setSP v).x = s.x := rfl
@[simp] theorem State.setSP_y (s : State) (v : Byte) : (s.setSP v).y = s.y := rfl
@[simp] theorem State.setSP_sp (s : State) (v : Byte) : (s.setSP v).sp = v := rfl
@[simp] theorem State.setSP_pc (s : State) (v : Byte) : (s.setSP v).pc = s.pc := rfl
@[simp] theorem State.setSP_flagC (s : State) (v : Byte) : (s.setSP v).flagC = s.flagC := rfl
@[simp] theorem State.setSP_flagZ (s : State) (v : Byte) : (s.setSP v).flagZ = s.flagZ := rfl
@[simp] theorem State.setSP_flagI (s : State) (v : Byte) : (s.setSP v).flagI = s.flagI := rfl
@[simp] theorem State.setSP_flagD (s : State) (v : Byte) : (s.setSP v).flagD = s.flagD := rfl
@[simp] theorem State.setSP_flagB (s : State) (v : Byte) : (s.setSP v).flagB = s.flagB := rfl
@[simp] theorem State.setSP_flagV (s : State) (v : Byte) : (s.setSP v).flagV = s.flagV := rfl
@[simp] theorem State.setSP_flagN (s : State) (v : Byte) : (s.setSP v).flagN = s.flagN := rfl
@[simp] theorem State.setSP_cyc (s : State) (v : Byte) : (s.setSP v).cyc = s.cyc := rfl
@[simp] theorem State.setSP_fault (s : State) (v : Byte) : (s.setSP v).fault = s.fault := rfl
@[simp] theorem State.setSP_diag (s : State) (v : Byte) : (s.setSP v).diag = s.diag := rfl
@[simp] theorem State.setSP_mem (s : State) (v : Byte) : (s.setSP v).mem = s.mem := rfl

/-! ### `setPC` -/

@[simp] theorem State.setPC_a (s : State) (v : Word) : (s.setPC v).a = s.a := rfl
@[simp] theorem State.setPC_x (s : State) (v : Word) : (s.setPC v).x = s.x := rfl
@[simp] theorem State.setPC_y (s : State) (v : Word) : (s.setPC v).y = s.y := rfl
@[simp] theorem State.setPC_sp (s : State) (v : Word) : (s.setPC v).sp = s.sp := rfl
@[simp] theorem State.setPC_pc (s : State) (v : Word) : (s.setPC v).pc = v := rfl
@[simp] theorem State.setPC_flagC (s : State) (v : Word) : (s.setPC v).flagC = s.flagC := rfl
@[simp] theorem State.setPC_flagZ (s : State) (v : Word) : (s.setPC v).flagZ = s.flagZ := rfl
@[simp] theorem State.setPC_flagI (s : State) (v : Word) : (s.setPC v).flagI = s.flagI := rfl
@[simp] theorem State.setPC_flagD (s : State) (v : Word) : (s.setPC v).flagD = s.flagD := rfl
@[simp] theorem State.setPC_flagB (s : State) (v : Word) : (s.setPC v).flagB = s.flagB := rfl
@[simp] theorem State.setPC_flagV (s : State) (v : Word) : (s.setPC v).flagV = s.flagV := rfl
@[simp] theorem State.setPC_flagN (s : State) (v : Word) : (s.setPC v).flagN = s.flagN := rfl
@[simp] theorem State.setPC_cyc (s : State) (v : Word) : (s.setPC v).cyc = s.cyc := rfl
@[simp] theorem State.setPC_fault (s : State) (v : Word) : (s.setPC v).fault = s.fault := rfl
@[simp] theorem State.setPC_diag (s : State) (v : Word) : (s.setPC v).diag = s.diag := rfl
@[simp] theorem State.setPC_mem (s : State) (v : Word) : (s.setPC v).mem = s.mem := rfl

/-! ### `spend` -/

@[simp] theorem State.spend_a (s : State) (k : Int) : (s.spend k).a = s.a := rfl
@[simp] theorem State.spend_x (s : State) (k : Int) : (s.spend k).x = s.x := rfl
@[simp] theorem State.spend_y (s : State) (k : Int) : (s.spend k).y = s.y := rfl
@[simp] theorem State.spend_sp (s : State) (k : Int) : (s.spend k).sp = s.sp := rfl
@[simp] theorem State.spend_pc (s : State) (k : Int) : (s.spend k).pc = s.pc := rfl
@[simp] theorem State.spend_flagC (s : State) (k : Int) : (s.spend k).flagC = s.flagC := rfl
@[simp] theorem State.spend_flagZ (s : State) (k : Int) : (s.spend k).flagZ = s.flagZ := rfl
@[simp] theorem State.spend_flagI (s : State) (k : Int) : (s.spend k).flagI = s.flagI := rfl
@[simp] theorem State.spend_flagD (s : State) (k : Int) : (s.spend k).flagD = s.flagD := rfl
@[simp] theorem State.spend_flagB (s : State) (k : Int) : (s.spend k).flagB = s.flagB := rfl
@[simp] theorem State.spend_flagV (s : State) (k : Int) : (s.spend k).flagV = s.flagV := rfl
@[simp] theorem State.spend_flagN (s : State) (k : Int) : (s.spend k).flagN = s.flagN := rfl
@[simp] theorem State.spend_cyc (s : State) (k : Int) : (s.spend k).cyc = s.cyc - k := rfl
@[simp] theorem State.spend_fault (s : State) (k : Int) : (s.spend k).fault = s.fault := rfl
@[simp] theorem State.spend_diag (s : State) (k : Int) : (s.spend k).diag = s.diag := rfl
@[simp] theorem State.spend_mem (s : State) (k : Int) : (s.spend k).mem = s.mem := rfl

/-! ### `setMem` -/

@[simp] theorem State.setMem_a (s : State) (m : Memory) : (s.setMem m).a = s.a := rfl
@[simp] theorem State.setMem_x (s : State) (m : Memory) : (s.setMem m).x = s.x := rfl
@[simp] theorem State.setMem_y (s : State) (m : Memory) : (s.setMem m).y = s.y := rfl
@[simp] theorem State.setMem_sp (s : State) (m : Memory) : (s.setMem m).sp = s.sp := rfl
@[simp] theorem State.setMem_pc (s : State) (m : Memory) : (s.setMem m).pc = s.pc := rfl
@[simp] theorem State.setMem_flagC (s : State) (m : Memory) : (s.setMem m).flagC = s.flagC := rfl
@[simp] theorem State.setMem_flagZ (s : State) (m : Memory) : (s.setMem m).flagZ = s.flagZ := rfl
@[simp] theorem State.setMem_flagI (s : State) (m : Memory) : (s.setMem m).flagI = s.flagI := rfl
@[simp] theorem State.setMem_flagD (s : State) (m : Memory) : (s.setMem m).flagD = s.flagD := rfl
@[simp] theorem State.setMem_flagB (s : State) (m : Memory) : (s.setMem m).flagB = s.flagB := rfl
@[simp] theorem State.setMem_flagV (s : State) (m : Memory) : (s.setMem m).flagV = s.flagV := rfl
@[simp] theorem State.setMem_flagN (s : State) (m : Memory) : (s.setMem m).flagN = s.flagN := rfl
@[simp] theorem State.setMem_cyc (s : State) (m : Memory) : (s.setMem m).cyc = s.cyc := rfl
@[simp] theorem State.setMem_fault (s : State) (m : Memory) : (s.setMem m).fault = s.fault := rfl
@[simp] theorem State.setMem_diag (s : State) (m : Memory) : (s.setMem m).diag = s.diag := rfl
@[simp] theorem State.setMem_mem (s : State) (m : Memory) : (s.setMem m).mem = m := rfl

/-! ### `report` -/

@[simp] theorem State.report_a (s : State) (e : DiagEvent) : (s.report e).a = s.a := rfl
@[simp] theorem State.report_x (s : State) (e : DiagEvent) : (s.report e).x = s.x := rfl
@[simp] theorem State.report_y (s : State) (e : DiagEvent) : (s.report e).y = s.y := rfl
@[simp] theorem State.report_sp (s : State) (e : DiagEvent) : (s.report e).sp = s.sp := rfl
@[simp] theorem State.report_pc (s : State) (e : DiagEvent) : (s.report e).pc = s.pc := rfl
@[simp] theorem State.report_flagC (s : State) (e : DiagEvent) : (s.report e).flagC = s.flagC := rfl
@[simp] theorem State.report_flagZ (s : State) (e : DiagEvent) : (s.report e).flagZ = s.flagZ := rfl
@[simp] theorem State.report_flagI (s : State) (e : DiagEvent) : (s.report e).flagI = s.flagI := rfl
@[simp] theorem State.report_flagD (s : State) (e : DiagEvent) : (s.report e).flagD = s.flagD := rfl
@[simp] theorem State.report_flagB (s : State) (e : DiagEvent) : (s.report e).flagB = s.flagB := rfl
@[simp] theorem State.report_flagV (s : State) (e : DiagEvent) : (s.report e).flagV = s.flagV := rfl
@[simp] theorem State.report_flagN (s : State) (e : DiagEvent) : (s.report e).flagN = s.flagN := rfl
@[simp] theorem State.report_cyc (s : State) (e : DiagEvent) : (s.report e).cyc = s.cyc := rfl
@[simp] theorem State.report_fault (s : State) (e : DiagEvent) : (s.report e).fault = s.fault := rfl
@[simp] theorem State.report_diag (s : State) (e : DiagEvent) : (s.report e).diag = s.diag ++ [e] := rfl
@[simp] theorem State.report_mem (s : State) (e : DiagEvent) : (s.report e).mem = s.mem := rfl

/-! ### `latchFault` -/

@[simp] theorem State.latchFault_a (s : State) (e : Fault) : (s.latchFault e).a = s.a := rfl
@[simp] theorem State.latchFault_x (s : State) (e : Fault) : (s.latchFault e).x = s.x := rfl
@[simp] theorem State.latchFault_y (s : State) (e : Fault) : (s.latchFault e).y = s.y := rfl
@[simp] theorem State.latchFault_sp (s : State) (e : Fault) : (s.latchFault e).sp = s.sp := rfl
@[simp] theorem State.latchFault_pc (s : State) (e : Fault) : (s.latchFault e).pc = s.pc := rfl
@[simp] theorem State.latchFault_flagC (s : State) (e : Fault) : (s.latchFault e).flagC = s.flagC := rfl
@[simp] theorem State.latchFault_flagZ (s : State) (e : Fault) : (s.latchFault e).flagZ = s.flagZ := rfl
@[simp] theorem State.latchFault_flagI (s : State) (e : Fault) : (s.latchFault e).flagI = s.flagI := rfl
@[simp] theorem State.latchFault_flagD (s : State) (e : Fault) : (s.latchFault e).flagD = s.flagD := rfl
@[simp] theorem State.latchFault_flagB (s : State) (e : Fault) : (s.latchFault e).flagB = s.flagB := rfl
@[simp] theorem State.latchFault_flagV (s : State) (e : Fault) : (s.latchFault e).flagV = s.flagV := rfl
@[simp] theorem State.latchFault_flagN (s : State) (e : Fault) : (s.latchFault e).flagN = s.flagN := rfl
@[simp] theorem State.latchFault_cyc (s : State) (e : Fault) : (s.latchFault e).cyc = s.cyc := rfl
@[simp] theorem State.latchFault_fault (s : State) (e : Fault) : (s.latchFault e).fault = some e := rfl
@[simp] theorem State.latchFault_diag (s : State) (e : Fault) : (s.latchFault e).diag = s.diag := rfl
@[simp] theorem State.latchFault_mem (s : State) (e : Fault) : (s.latchFault e).mem = s.mem := rfl

/-! ### `setZN` -/

@[simp] theorem State.setZN_a (s : State) (v : Byte) : (s.setZN v).a = s.a := rfl
@[simp] theorem State.setZN_x (s : State) (v : Byte) : (s.setZN v).x = s.x := rfl
@[simp] theorem State.setZN_y (s : State) (v : Byte) : (s.setZN v).y = s.y := rfl
@[simp] theorem State.setZN_sp (s : State) (v : Byte) : (s.setZN v).sp = s.sp := rfl
@[simp] theorem State.setZN_pc (s : State) (v : Byte) : (s.setZN v).pc = s.pc := rfl
@[simp] theorem State.setZN_flagC (s : State) (v : Byte) : (s.setZN v).flagC = s.flagC := rfl
@[simp] theorem State.setZN_flagZ (s : State) (v : Byte) : (s.setZN v).flagZ = zeroOf v := rfl
@[simp] theorem State.setZN_flagI (s : State) (v : Byte) : (s.setZN v).flagI = s.flagI := rfl
@[simp] theorem State.setZN_flagD (s : State) (v : Byte) : (s.setZN v).flagD = s.flagD := rfl
@[simp] theorem State.setZN_flagB (s : State) (v : Byte) : (s.setZN v).flagB = s.flagB := rfl
@[simp] theorem State.setZN_flagV (s : State) (v : Byte) : (s.setZN v).flagV = s.flagV := rfl
@[simp] theorem State.setZN_flagN (s : State) (v : Byte) : (s.setZN v).flagN = negativeOf v := rfl
@[simp] theorem State.setZN_cyc (s : State) (v : Byte) : (s.setZN v).cyc = s.cyc := rfl
@[simp] theorem State.setZN_fault (s : State) (v : Byte) : (s.setZN v).fault = s.fault := rfl
@[simp] theorem State.setZN_diag (s : State) (v : Byte) : (s.setZN v).diag = s.diag := rfl
@[simp] theorem State.setZN_mem (s : State) (v : Byte) : (s.setZN v).mem = s.mem := rfl

/-! ### Reset (R24, R125) -/

@[simp] theorem State.resetWith_a (budget : Int) : (State.resetWith budget).a = 0x00 := rfl
@[simp] theorem State.resetWith_x (budget : Int) : (State.resetWith budget).x = 0x00 := rfl
@[simp] theorem State.resetWith_y (budget : Int) : (State.resetWith budget).y = 0x00 := rfl
@[simp] theorem State.resetWith_sp (budget : Int) : (State.resetWith budget).sp = 0x01 := rfl
@[simp] theorem State.resetWith_pc (budget : Int) : (State.resetWith budget).pc = 0xFFFC := rfl
@[simp] theorem State.resetWith_flagC (budget : Int) : (State.resetWith budget).flagC = false := rfl
@[simp] theorem State.resetWith_flagZ (budget : Int) : (State.resetWith budget).flagZ = false := rfl
@[simp] theorem State.resetWith_flagI (budget : Int) : (State.resetWith budget).flagI = false := rfl
@[simp] theorem State.resetWith_flagD (budget : Int) : (State.resetWith budget).flagD = false := rfl
@[simp] theorem State.resetWith_flagB (budget : Int) : (State.resetWith budget).flagB = false := rfl
@[simp] theorem State.resetWith_flagV (budget : Int) : (State.resetWith budget).flagV = false := rfl
@[simp] theorem State.resetWith_flagN (budget : Int) : (State.resetWith budget).flagN = false := rfl
@[simp] theorem State.resetWith_cyc (budget : Int) : (State.resetWith budget).cyc = budget := rfl
@[simp] theorem State.resetWith_fault (budget : Int) : (State.resetWith budget).fault = none := rfl
@[simp] theorem State.resetWith_diag (budget : Int) : (State.resetWith budget).diag = [] := rfl
@[simp] theorem State.resetWith_mem (budget : Int) : (State.resetWith budget).mem = [] := rfl

/-! ### The run state (R18) -/

theorem State.running_iff (s : State) : s.running = true ↔ s.fault = none ∧ 0 < s.cyc := by
  unfold State.running State.runState
  cases hf : s.fault with
  | some f => simp
  | none => by_cases hc : 0 < s.cyc <;> simp [hc]

theorem State.not_running_iff (s : State) : s.running = false ↔ s.fault ≠ none ∨ s.cyc ≤ 0 := by
  rw [← Bool.not_eq_true, State.running_iff, not_and_or, not_lt]

end Sys2Proof.Machine
end

