-- ==== Sys2Proof/Laws/Ops.lean ====
section
/-! SUPPORT. One lemma for each shared operation: everything it can do. -/

namespace Sys2Proof.Machine

/-! ### Running one primitive after another -/

@[simp] theorem Access.bind_ok {α β : Type} (v : α) (s : State) (f : α → State → Access β) :
    (Access.ok v s).bind f = f v s := rfl

@[simp] theorem Access.bind_raised {α β : Type} (e : Fault) (s : State) (f : α → State → Access β) :
    (Access.raised e s : Access α).bind f = .raised e s := rfl

@[simp] theorem Access.settle_ok (s : State) : (Access.ok () s).settle = .next s := rfl

@[simp] theorem Access.settle_raised (e : Fault) (s : State) :
    (Access.raised e s).settle = .next (s.latchFault e) := rfl

/-! ### The primitives with every core address inside memory (R102) -/

/-- The state one byte fetch leaves: the program counter one on, one cycle spent (R70). -/
def State.pastByte (s : State) : State := (s.setPC (s.pc + 1)).spend 1

theorem fetchByte_eq (s : State) : fetchByte s = .ok (s.mem.read s.pc.toNat) s.pastByte := by
  simp [fetchByte, memRead_eq s.mem (word_lt_maxMem s.pc), State.pastByte]

theorem fetchWord_eq (s : State) :
    fetchWord s = .ok (wordOf (s.mem.read (s.pc + 1).toNat) (s.mem.read s.pc.toNat)) s.pastByte.pastByte := by
  simp [fetchWord, fetchByte_eq, State.pastByte]

theorem passOpcode_eq (s : State) : passOpcode s = .ok () s.pastByte := by simp [passOpcode, fetchByte_eq]

theorem passByte_eq (s : State) : passByte s = .ok () s.pastByte := by simp [passByte, fetchByte_eq]

theorem passWord_eq (s : State) : passWord s = .ok () s.pastByte.pastByte := by simp [passWord, fetchWord_eq]

theorem readByte_eq (addr : Word) (s : State) : readByte addr s = .ok (s.mem.read addr.toNat) (s.spend 1) := by
  simp [readByte, memRead_eq s.mem (word_lt_maxMem addr)]

/-- A word write whose two bytes are in memory (R73). -/
theorem writeWord_eq (s : State) {addr : Nat} (v : Word) (h : addr + 1 < Config.maxMem) :
    writeWord addr v s =
      .ok () ((s.setMem ((s.mem.write addr (lowByte v)).write (addr + 1) (highByte v))).spend 2) := by
  simp [writeWord, memWriteWord_eq s.mem v h]

/-- The bytes a push writes are always in memory (R102). -/
theorem stackAddr_succ_lt (sp : Byte) : stackAddr sp + 1 < Config.maxMem := by
  have := sp.isLt
  simp only [stackAddr, Config.stackBase, Config.maxMem]
  omega

/-! ### The shared ends of the instructions -/

theorem loadA_eq (v : Byte) (s : State) : loadA v s = .ok () ((s.setA v).setZN v) := rfl

/-- Everything JSR does after its target is fetched (R90). -/
theorem callTo_eq (t : Word) (s : State) :
    callTo t s = .ok () ((((((s.setMem ((s.mem.write (stackAddr s.sp) (lowByte (returnAddr s.pc))).write
      (stackAddr s.sp + 1) (highByte (returnAddr s.pc)))).spend 2).setSP (pushedSP s.sp)).setPC t).spend 1)) := by
  simp [callTo, writeWord_eq s _ (stackAddr_succ_lt s.sp), internalCycle]

/-- Everything an Unhandled opcode does (R95). -/
theorem unhandledOpcode_eq (op : Byte) (s : State) :
    unhandledOpcode op s = .next (s.pastByte.report (.unhandledOpcode op s.pc)) := by
  simp [unhandledOpcode, passOpcode_eq]

end Sys2Proof.Machine
end

