-- ==== Sys2Proof/Laws/PerInstr.lean ====
section
/-! SUPPORT. Facts about every instruction as syntax, one lemma per constructor. Family `EncodingShape`: the bytes of an
instruction are its opcode and as many operand bytes as the format of that opcode has (spec/30_encoding.md R50, R55). -/

namespace Sys2Proof.Laws

/-- The encoding begins with the opcode and has the length the opcode tells, one to three bytes. -/
def EncodingShape.Statement (i : Instr) : Prop :=
  (encode i).head? = some i.opcode ∧ (encode i).length = i.lengthBytes ∧ 1 ≤ i.lengthBytes ∧ i.lengthBytes ≤ longestInstr

theorem EncodingShape.ldaIm (b1 : Byte) : EncodingShape.Statement (.ldaIm b1) := ⟨rfl, rfl, opLength_bounds _⟩
theorem EncodingShape.ldaZp (b1 : Byte) : EncodingShape.Statement (.ldaZp b1) := ⟨rfl, rfl, opLength_bounds _⟩
theorem EncodingShape.ldaZpx (b1 : Byte) : EncodingShape.Statement (.ldaZpx b1) := ⟨rfl, rfl, opLength_bounds _⟩
theorem EncodingShape.jsr (t : Word) : EncodingShape.Statement (.jsr t) := ⟨rfl, rfl, opLength_bounds _⟩
theorem EncodingShape.unhandled00 : EncodingShape.Statement .unhandled00 := ⟨rfl, rfl, opLength_bounds _⟩
theorem EncodingShape.unhandled01 : EncodingShape.Statement .unhandled01 := ⟨rfl, rfl, opLength_bounds _⟩
theorem EncodingShape.unhandled02 : EncodingShape.Statement .unhandled02 := ⟨rfl, rfl, opLength_bounds _⟩
theorem EncodingShape.unhandled03 : EncodingShape.Statement .unhandled03 := ⟨rfl, rfl, opLength_bounds _⟩
theorem EncodingShape.unhandled04 : EncodingShape.Statement .unhandled04 := ⟨rfl, rfl, opLength_bounds _⟩
theorem EncodingShape.unhandled05 : EncodingShape.Statement .unhandled05 := ⟨rfl, rfl, opLength_bounds _⟩
theorem EncodingShape.unhandled06 : EncodingShape.Statement .unhandled06 := ⟨rfl, rfl, opLength_bounds _⟩
theorem EncodingShape.unhandled07 : EncodingShape.Statement .unhandled07 := ⟨rfl, rfl, opLength_bounds _⟩
theorem EncodingShape.unhandled08 : EncodingShape.Statement .unhandled08 := ⟨rfl, rfl, opLength_bounds _⟩
theorem EncodingShape.unhandled09 : EncodingShape.Statement .unhandled09 := ⟨rfl, rfl, opLength_bounds _⟩
theorem EncodingShape.unhandled0A : EncodingShape.Statement .unhandled0A := ⟨rfl, rfl, opLength_bounds _⟩
theorem EncodingShape.unhandled0B : EncodingShape.Statement .unhandled0B := ⟨rfl, rfl, opLength_bounds _⟩
theorem EncodingShape.unhandled0C : EncodingShape.Statement .unhandled0C := ⟨rfl, rfl, opLength_bounds _⟩
theorem EncodingShape.unhandled0D : EncodingShape.Statement .unhandled0D := ⟨rfl, rfl, opLength_bounds _⟩
theorem EncodingShape.unhandled0E : EncodingShape.Statement .unhandled0E := ⟨rfl, rfl, opLength_bounds _⟩
theorem EncodingShape.unhandled0F : EncodingShape.Statement .unhandled0F := ⟨rfl, rfl, opLength_bounds _⟩
theorem EncodingShape.unhandled10 : EncodingShape.Statement .unhandled10 := ⟨rfl, rfl, opLength_bounds _⟩
theorem EncodingShape.unhandled11 : EncodingShape.Statement .unhandled11 := ⟨rfl, rfl, opLength_bounds _⟩
theorem EncodingShape.unhandled12 : EncodingShape.Statement .unhandled12 := ⟨rfl, rfl, opLength_bounds _⟩
theorem EncodingShape.unhandled13 : EncodingShape.Statement .unhandled13 := ⟨rfl, rfl, opLength_bounds _⟩
theorem EncodingShape.unhandled14 : EncodingShape.Statement .unhandled14 := ⟨rfl, rfl, opLength_bounds _⟩
theorem EncodingShape.unhandled15 : EncodingShape.Statement .unhandled15 := ⟨rfl, rfl, opLength_bounds _⟩
theorem EncodingShape.unhandled16 : EncodingShape.Statement .unhandled16 := ⟨rfl, rfl, opLength_bounds _⟩
theorem EncodingShape.unhandled17 : EncodingShape.Statement .unhandled17 := ⟨rfl, rfl, opLength_bounds _⟩
theorem EncodingShape.unhandled18 : EncodingShape.Statement .unhandled18 := ⟨rfl, rfl, opLength_bounds _⟩
theorem EncodingShape.unhandled19 : EncodingShape.Statement .unhandled19 := ⟨rfl, rfl, opLength_bounds _⟩
theorem EncodingShape.unhandled1A : EncodingShape.Statement .unhandled1A := ⟨rfl, rfl, opLength_bounds _⟩
theorem EncodingShape.unhandled1B : EncodingShape.Statement .unhandled1B := ⟨rfl, rfl, opLength_bounds _⟩
theorem EncodingShape.unhandled1C : EncodingShape.Statement .unhandled1C := ⟨rfl, rfl, opLength_bounds _⟩
theorem EncodingShape.unhandled1D : EncodingShape.Statement .unhandled1D := ⟨rfl, rfl, opLength_bounds _⟩
theorem EncodingShape.unhandled1E : EncodingShape.Statement .unhandled1E := ⟨rfl, rfl, opLength_bounds _⟩
theorem EncodingShape.unhandled1F : EncodingShape.Statement .unhandled1F := ⟨rfl, rfl, opLength_bounds _⟩
theorem EncodingShape.unhandled21 : EncodingShape.Statement .unhandled21 := ⟨rfl, rfl, opLength_bounds _⟩
theorem EncodingShape.unhandled22 : EncodingShape.Statement .unhandled22 := ⟨rfl, rfl, opLength_bounds _⟩
theorem EncodingShape.unhandled23 : EncodingShape.Statement .unhandled23 := ⟨rfl, rfl, opLength_bounds _⟩
theorem EncodingShape.unhandled24 : EncodingShape.Statement .unhandled24 := ⟨rfl, rfl, opLength_bounds _⟩
theorem EncodingShape.unhandled25 : EncodingShape.Statement .unhandled25 := ⟨rfl, rfl, opLength_bounds _⟩
theorem EncodingShape.unhandled26 : EncodingShape.Statement .unhandled26 := ⟨rfl, rfl, opLength_bounds _⟩
theorem EncodingShape.unhandled27 : EncodingShape.Statement .unhandled27 := ⟨rfl, rfl, opLength_bounds _⟩
theorem EncodingShape.unhandled28 : EncodingShape.Statement .unhandled28 := ⟨rfl, rfl, opLength_bounds _⟩
theorem EncodingShape.unhandled29 : EncodingShape.Statement .unhandled29 := ⟨rfl, rfl, opLength_bounds _⟩
theorem EncodingShape.unhandled2A : EncodingShape.Statement .unhandled2A := ⟨rfl, rfl, opLength_bounds _⟩
theorem EncodingShape.unhandled2B : EncodingShape.Statement .unhandled2B := ⟨rfl, rfl, opLength_bounds _⟩
theorem EncodingShape.unhandled2C : EncodingShape.Statement .unhandled2C := ⟨rfl, rfl, opLength_bounds _⟩
theorem EncodingShape.unhandled2D : EncodingShape.Statement .unhandled2D := ⟨rfl, rfl, opLength_bounds _⟩
theorem EncodingShape.unhandled2E : EncodingShape.Statement .unhandled2E := ⟨rfl, rfl, opLength_bounds _⟩
theorem EncodingShape.unhandled2F : EncodingShape.Statement .unhandled2F := ⟨rfl, rfl, opLength_bounds _⟩
theorem EncodingShape.unhandled30 : EncodingShape.Statement .unhandled30 := ⟨rfl, rfl, opLength_bounds _⟩
theorem EncodingShape.unhandled31 : EncodingShape.Statement .unhandled31 := ⟨rfl, rfl, opLength_bounds _⟩
theorem EncodingShape.unhandled32 : EncodingShape.Statement .unhandled32 := ⟨rfl, rfl, opLength_bounds _⟩
theorem EncodingShape.unhandled33 : EncodingShape.Statement .unhandled33 := ⟨rfl, rfl, opLength_bounds _⟩
theorem EncodingShape.unhandled34 : EncodingShape.Statement .unhandled34 := ⟨rfl, rfl, opLength_bounds _⟩
theorem EncodingShape.unhandled35 : EncodingShape.Statement .unhandled35 := ⟨rfl, rfl, opLength_bounds _⟩
theorem EncodingShape.unhandled36 : EncodingShape.Statement .unhandled36 := ⟨rfl, rfl, opLength_bounds _⟩
theorem EncodingShape.unhandled37 : EncodingShape.Statement .unhandled37 := ⟨rfl, rfl, opLength_bounds _⟩
theorem EncodingShape.unhandled38 : EncodingShape.Statement .unhandled38 := ⟨rfl, rfl, opLength_bounds _⟩
theorem EncodingShape.unhandled39 : EncodingShape.Statement .unhandled39 := ⟨rfl, rfl, opLength_bounds _⟩
theorem EncodingShape.unhandled3A : EncodingShape.Statement .unhandled3A := ⟨rfl, rfl, opLength_bounds _⟩
theorem EncodingShape.unhandled3B : EncodingShape.Statement .unhandled3B := ⟨rfl, rfl, opLength_bounds _⟩
theorem EncodingShape.unhandled3C : EncodingShape.Statement .unhandled3C := ⟨rfl, rfl, opLength_bounds _⟩
theorem EncodingShape.unhandled3D : EncodingShape.Statement .unhandled3D := ⟨rfl, rfl, opLength_bounds _⟩
theorem EncodingShape.unhandled3E : EncodingShape.Statement .unhandled3E := ⟨rfl, rfl, opLength_bounds _⟩
theorem EncodingShape.unhandled3F : EncodingShape.Statement .unhandled3F := ⟨rfl, rfl, opLength_bounds _⟩
theorem EncodingShape.unhandled40 : EncodingShape.Statement .unhandled40 := ⟨rfl, rfl, opLength_bounds _⟩
theorem EncodingShape.unhandled41 : EncodingShape.Statement .unhandled41 := ⟨rfl, rfl, opLength_bounds _⟩
theorem EncodingShape.unhandled42 : EncodingShape.Statement .unhandled42 := ⟨rfl, rfl, opLength_bounds _⟩
theorem EncodingShape.unhandled43 : EncodingShape.Statement .unhandled43 := ⟨rfl, rfl, opLength_bounds _⟩
theorem EncodingShape.unhandled44 : EncodingShape.Statement .unhandled44 := ⟨rfl, rfl, opLength_bounds _⟩
theorem EncodingShape.unhandled45 : EncodingShape.Statement .unhandled45 := ⟨rfl, rfl, opLength_bounds _⟩
theorem EncodingShape.unhandled46 : EncodingShape.Statement .unhandled46 := ⟨rfl, rfl, opLength_bounds _⟩
theorem EncodingShape.unhandled47 : EncodingShape.Statement .unhandled47 := ⟨rfl, rfl, opLength_bounds _⟩
theorem EncodingShape.unhandled48 : EncodingShape.Statement .unhandled48 := ⟨rfl, rfl, opLength_bounds _⟩
theorem EncodingShape.unhandled49 : EncodingShape.Statement .unhandled49 := ⟨rfl, rfl, opLength_bounds _⟩
theorem EncodingShape.unhandled4A : EncodingShape.Statement .unhandled4A := ⟨rfl, rfl, opLength_bounds _⟩
theorem EncodingShape.unhandled4B : EncodingShape.Statement .unhandled4B := ⟨rfl, rfl, opLength_bounds _⟩
theorem EncodingShape.unhandled4C : EncodingShape.Statement .unhandled4C := ⟨rfl, rfl, opLength_bounds _⟩
theorem EncodingShape.unhandled4D : EncodingShape.Statement .unhandled4D := ⟨rfl, rfl, opLength_bounds _⟩
theorem EncodingShape.unhandled4E : EncodingShape.Statement .unhandled4E := ⟨rfl, rfl, opLength_bounds _⟩
theorem EncodingShape.unhandled4F : EncodingShape.Statement .unhandled4F := ⟨rfl, rfl, opLength_bounds _⟩
theorem EncodingShape.unhandled50 : EncodingShape.Statement .unhandled50 := ⟨rfl, rfl, opLength_bounds _⟩
theorem EncodingShape.unhandled51 : EncodingShape.Statement .unhandled51 := ⟨rfl, rfl, opLength_bounds _⟩
theorem EncodingShape.unhandled52 : EncodingShape.Statement .unhandled52 := ⟨rfl, rfl, opLength_bounds _⟩
theorem EncodingShape.unhandled53 : EncodingShape.Statement .unhandled53 := ⟨rfl, rfl, opLength_bounds _⟩
theorem EncodingShape.unhandled54 : EncodingShape.Statement .unhandled54 := ⟨rfl, rfl, opLength_bounds _⟩
theorem EncodingShape.unhandled55 : EncodingShape.Statement .unhandled55 := ⟨rfl, rfl, opLength_bounds _⟩
theorem EncodingShape.unhandled56 : EncodingShape.Statement .unhandled56 := ⟨rfl, rfl, opLength_bounds _⟩
theorem EncodingShape.unhandled57 : EncodingShape.Statement .unhandled57 := ⟨rfl, rfl, opLength_bounds _⟩
theorem EncodingShape.unhandled58 : EncodingShape.Statement .unhandled58 := ⟨rfl, rfl, opLength_bounds _⟩
theorem EncodingShape.unhandled59 : EncodingShape.Statement .unhandled59 := ⟨rfl, rfl, opLength_bounds _⟩
theorem EncodingShape.unhandled5A : EncodingShape.Statement .unhandled5A := ⟨rfl, rfl, opLength_bounds _⟩
theorem EncodingShape.unhandled5B : EncodingShape.Statement .unhandled5B := ⟨rfl, rfl, opLength_bounds _⟩
theorem EncodingShape.unhandled5C : EncodingShape.Statement .unhandled5C := ⟨rfl, rfl, opLength_bounds _⟩
theorem EncodingShape.unhandled5D : EncodingShape.Statement .unhandled5D := ⟨rfl, rfl, opLength_bounds _⟩
theorem EncodingShape.unhandled5E : EncodingShape.Statement .unhandled5E := ⟨rfl, rfl, opLength_bounds _⟩
theorem EncodingShape.unhandled5F : EncodingShape.Statement .unhandled5F := ⟨rfl, rfl, opLength_bounds _⟩
theorem EncodingShape.unhandled60 : EncodingShape.Statement .unhandled60 := ⟨rfl, rfl, opLength_bounds _⟩
theorem EncodingShape.unhandled61 : EncodingShape.Statement .unhandled61 := ⟨rfl, rfl, opLength_bounds _⟩
theorem EncodingShape.unhandled62 : EncodingShape.Statement .unhandled62 := ⟨rfl, rfl, opLength_bounds _⟩
theorem EncodingShape.unhandled63 : EncodingShape.Statement .unhandled63 := ⟨rfl, rfl, opLength_bounds _⟩
theorem EncodingShape.unhandled64 : EncodingShape.Statement .unhandled64 := ⟨rfl, rfl, opLength_bounds _⟩
theorem EncodingShape.unhandled65 : EncodingShape.Statement .unhandled65 := ⟨rfl, rfl, opLength_bounds _⟩
theorem EncodingShape.unhandled66 : EncodingShape.Statement .unhandled66 := ⟨rfl, rfl, opLength_bounds _⟩
theorem EncodingShape.unhandled67 : EncodingShape.Statement .unhandled67 := ⟨rfl, rfl, opLength_bounds _⟩
theorem EncodingShape.unhandled68 : EncodingShape.Statement .unhandled68 := ⟨rfl, rfl, opLength_bounds _⟩
theorem EncodingShape.unhandled69 : EncodingShape.Statement .unhandled69 := ⟨rfl, rfl, opLength_bounds _⟩
theorem EncodingShape.unhandled6A : EncodingShape.Statement .unhandled6A := ⟨rfl, rfl, opLength_bounds _⟩
theorem EncodingShape.unhandled6B : EncodingShape.Statement .unhandled6B := ⟨rfl, rfl, opLength_bounds _⟩
theorem EncodingShape.unhandled6C : EncodingShape.Statement .unhandled6C := ⟨rfl, rfl, opLength_bounds _⟩
theorem EncodingShape.unhandled6D : EncodingShape.Statement .unhandled6D := ⟨rfl, rfl, opLength_bounds _⟩
theorem EncodingShape.unhandled6E : EncodingShape.Statement .unhandled6E := ⟨rfl, rfl, opLength_bounds _⟩
theorem EncodingShape.unhandled6F : EncodingShape.Statement .unhandled6F := ⟨rfl, rfl, opLength_bounds _⟩
theorem EncodingShape.unhandled70 : EncodingShape.Statement .unhandled70 := ⟨rfl, rfl, opLength_bounds _⟩
theorem EncodingShape.unhandled71 : EncodingShape.Statement .unhandled71 := ⟨rfl, rfl, opLength_bounds _⟩
theorem EncodingShape.unhandled72 : EncodingShape.Statement .unhandled72 := ⟨rfl, rfl, opLength_bounds _⟩
theorem EncodingShape.unhandled73 : EncodingShape.Statement .unhandled73 := ⟨rfl, rfl, opLength_bounds _⟩
theorem EncodingShape.unhandled74 : EncodingShape.Statement .unhandled74 := ⟨rfl, rfl, opLength_bounds _⟩
theorem EncodingShape.unhandled75 : EncodingShape.Statement .unhandled75 := ⟨rfl, rfl, opLength_bounds _⟩
theorem EncodingShape.unhandled76 : EncodingShape.Statement .unhandled76 := ⟨rfl, rfl, opLength_bounds _⟩
theorem EncodingShape.unhandled77 : EncodingShape.Statement .unhandled77 := ⟨rfl, rfl, opLength_bounds _⟩
theorem EncodingShape.unhandled78 : EncodingShape.Statement .unhandled78 := ⟨rfl, rfl, opLength_bounds _⟩
theorem EncodingShape.unhandled79 : EncodingShape.Statement .unhandled79 := ⟨rfl, rfl, opLength_bounds _⟩
theorem EncodingShape.unhandled7A : EncodingShape.Statement .unhandled7A := ⟨rfl, rfl, opLength_bounds _⟩
theorem EncodingShape.unhandled7B : EncodingShape.Statement .unhandled7B := ⟨rfl, rfl, opLength_bounds _⟩
theorem EncodingShape.unhandled7C : EncodingShape.Statement .unhandled7C := ⟨rfl, rfl, opLength_bounds _⟩
theorem EncodingShape.unhandled7D : EncodingShape.Statement .unhandled7D := ⟨rfl, rfl, opLength_bounds _⟩
theorem EncodingShape.unhandled7E : EncodingShape.Statement .unhandled7E := ⟨rfl, rfl, opLength_bounds _⟩
theorem EncodingShape.unhandled7F : EncodingShape.Statement .unhandled7F := ⟨rfl, rfl, opLength_bounds _⟩
theorem EncodingShape.unhandled80 : EncodingShape.Statement .unhandled80 := ⟨rfl, rfl, opLength_bounds _⟩
theorem EncodingShape.unhandled81 : EncodingShape.Statement .unhandled81 := ⟨rfl, rfl, opLength_bounds _⟩
theorem EncodingShape.unhandled82 : EncodingShape.Statement .unhandled82 := ⟨rfl, rfl, opLength_bounds _⟩
theorem EncodingShape.unhandled83 : EncodingShape.Statement .unhandled83 := ⟨rfl, rfl, opLength_bounds _⟩
theorem EncodingShape.unhandled84 : EncodingShape.Statement .unhandled84 := ⟨rfl, rfl, opLength_bounds _⟩
theorem EncodingShape.unhandled85 : EncodingShape.Statement .unhandled85 := ⟨rfl, rfl, opLength_bounds _⟩
theorem EncodingShape.unhandled86 : EncodingShape.Statement .unhandled86 := ⟨rfl, rfl, opLength_bounds _⟩
theorem EncodingShape.unhandled87 : EncodingShape.Statement .unhandled87 := ⟨rfl, rfl, opLength_bounds _⟩
theorem EncodingShape.unhandled88 : EncodingShape.Statement .unhandled88 := ⟨rfl, rfl, opLength_bounds _⟩
theorem EncodingShape.unhandled89 : EncodingShape.Statement .unhandled89 := ⟨rfl, rfl, opLength_bounds _⟩
theorem EncodingShape.unhandled8A : EncodingShape.Statement .unhandled8A := ⟨rfl, rfl, opLength_bounds _⟩
theorem EncodingShape.unhandled8B : EncodingShape.Statement .unhandled8B := ⟨rfl, rfl, opLength_bounds _⟩
theorem EncodingShape.unhandled8C : EncodingShape.Statement .unhandled8C := ⟨rfl, rfl, opLength_bounds _⟩
theorem EncodingShape.unhandled8D : EncodingShape.Statement .unhandled8D := ⟨rfl, rfl, opLength_bounds _⟩
theorem EncodingShape.unhandled8E : EncodingShape.Statement .unhandled8E := ⟨rfl, rfl, opLength_bounds _⟩
theorem EncodingShape.unhandled8F : EncodingShape.Statement .unhandled8F := ⟨rfl, rfl, opLength_bounds _⟩
theorem EncodingShape.unhandled90 : EncodingShape.Statement .unhandled90 := ⟨rfl, rfl, opLength_bounds _⟩
theorem EncodingShape.unhandled91 : EncodingShape.Statement .unhandled91 := ⟨rfl, rfl, opLength_bounds _⟩
theorem EncodingShape.unhandled92 : EncodingShape.Statement .unhandled92 := ⟨rfl, rfl, opLength_bounds _⟩
theorem EncodingShape.unhandled93 : EncodingShape.Statement .unhandled93 := ⟨rfl, rfl, opLength_bounds _⟩
theorem EncodingShape.unhandled94 : EncodingShape.Statement .unhandled94 := ⟨rfl, rfl, opLength_bounds _⟩
theorem EncodingShape.unhandled95 : EncodingShape.Statement .unhandled95 := ⟨rfl, rfl, opLength_bounds _⟩
theorem EncodingShape.unhandled96 : EncodingShape.Statement .unhandled96 := ⟨rfl, rfl, opLength_bounds _⟩
theorem EncodingShape.unhandled97 : EncodingShape.Statement .unhandled97 := ⟨rfl, rfl, opLength_bounds _⟩
theorem EncodingShape.unhandled98 : EncodingShape.Statement .unhandled98 := ⟨rfl, rfl, opLength_bounds _⟩
theorem EncodingShape.unhandled99 : EncodingShape.Statement .unhandled99 := ⟨rfl, rfl, opLength_bounds _⟩
theorem EncodingShape.unhandled9A : EncodingShape.Statement .unhandled9A := ⟨rfl, rfl, opLength_bounds _⟩
theorem EncodingShape.unhandled9B : EncodingShape.Statement .unhandled9B := ⟨rfl, rfl, opLength_bounds _⟩
theorem EncodingShape.unhandled9C : EncodingShape.Statement .unhandled9C := ⟨rfl, rfl, opLength_bounds _⟩
theorem EncodingShape.unhandled9D : EncodingShape.Statement .unhandled9D := ⟨rfl, rfl, opLength_bounds _⟩
theorem EncodingShape.unhandled9E : EncodingShape.Statement .unhandled9E := ⟨rfl, rfl, opLength_bounds _⟩
theorem EncodingShape.unhandled9F : EncodingShape.Statement .unhandled9F := ⟨rfl, rfl, opLength_bounds _⟩
theorem EncodingShape.unhandledA0 : EncodingShape.Statement .unhandledA0 := ⟨rfl, rfl, opLength_bounds _⟩
theorem EncodingShape.unhandledA1 : EncodingShape.Statement .unhandledA1 := ⟨rfl, rfl, opLength_bounds _⟩
theorem EncodingShape.unhandledA2 : EncodingShape.Statement .unhandledA2 := ⟨rfl, rfl, opLength_bounds _⟩
theorem EncodingShape.unhandledA3 : EncodingShape.Statement .unhandledA3 := ⟨rfl, rfl, opLength_bounds _⟩
theorem EncodingShape.unhandledA4 : EncodingShape.Statement .unhandledA4 := ⟨rfl, rfl, opLength_bounds _⟩
theorem EncodingShape.unhandledA6 : EncodingShape.Statement .unhandledA6 := ⟨rfl, rfl, opLength_bounds _⟩
theorem EncodingShape.unhandledA7 : EncodingShape.Statement .unhandledA7 := ⟨rfl, rfl, opLength_bounds _⟩
theorem EncodingShape.unhandledA8 : EncodingShape.Statement .unhandledA8 := ⟨rfl, rfl, opLength_bounds _⟩
theorem EncodingShape.unhandledAA : EncodingShape.Statement .unhandledAA := ⟨rfl, rfl, opLength_bounds _⟩
theorem EncodingShape.unhandledAB : EncodingShape.Statement .unhandledAB := ⟨rfl, rfl, opLength_bounds _⟩
theorem EncodingShape.unhandledAC : EncodingShape.Statement .unhandledAC := ⟨rfl, rfl, opLength_bounds _⟩
theorem EncodingShape.unhandledAD : EncodingShape.Statement .unhandledAD := ⟨rfl, rfl, opLength_bounds _⟩
theorem EncodingShape.unhandledAE : EncodingShape.Statement .unhandledAE := ⟨rfl, rfl, opLength_bounds _⟩
theorem EncodingShape.unhandledAF : EncodingShape.Statement .unhandledAF := ⟨rfl, rfl, opLength_bounds _⟩
theorem EncodingShape.unhandledB0 : EncodingShape.Statement .unhandledB0 := ⟨rfl, rfl, opLength_bounds _⟩
theorem EncodingShape.unhandledB1 : EncodingShape.Statement .unhandledB1 := ⟨rfl, rfl, opLength_bounds _⟩
theorem EncodingShape.unhandledB2 : EncodingShape.Statement .unhandledB2 := ⟨rfl, rfl, opLength_bounds _⟩
theorem EncodingShape.unhandledB3 : EncodingShape.Statement .unhandledB3 := ⟨rfl, rfl, opLength_bounds _⟩
theorem EncodingShape.unhandledB4 : EncodingShape.Statement .unhandledB4 := ⟨rfl, rfl, opLength_bounds _⟩
theorem EncodingShape.unhandledB6 : EncodingShape.Statement .unhandledB6 := ⟨rfl, rfl, opLength_bounds _⟩
theorem EncodingShape.unhandledB7 : EncodingShape.Statement .unhandledB7 := ⟨rfl, rfl, opLength_bounds _⟩
theorem EncodingShape.unhandledB8 : EncodingShape.Statement .unhandledB8 := ⟨rfl, rfl, opLength_bounds _⟩
theorem EncodingShape.unhandledB9 : EncodingShape.Statement .unhandledB9 := ⟨rfl, rfl, opLength_bounds _⟩
theorem EncodingShape.unhandledBA : EncodingShape.Statement .unhandledBA := ⟨rfl, rfl, opLength_bounds _⟩
theorem EncodingShape.unhandledBB : EncodingShape.Statement .unhandledBB := ⟨rfl, rfl, opLength_bounds _⟩
theorem EncodingShape.unhandledBC : EncodingShape.Statement .unhandledBC := ⟨rfl, rfl, opLength_bounds _⟩
theorem EncodingShape.unhandledBD : EncodingShape.Statement .unhandledBD := ⟨rfl, rfl, opLength_bounds _⟩
theorem EncodingShape.unhandledBE : EncodingShape.Statement .unhandledBE := ⟨rfl, rfl, opLength_bounds _⟩
theorem EncodingShape.unhandledBF : EncodingShape.Statement .unhandledBF := ⟨rfl, rfl, opLength_bounds _⟩
theorem EncodingShape.unhandledC0 : EncodingShape.Statement .unhandledC0 := ⟨rfl, rfl, opLength_bounds _⟩
theorem EncodingShape.unhandledC1 : EncodingShape.Statement .unhandledC1 := ⟨rfl, rfl, opLength_bounds _⟩
theorem EncodingShape.unhandledC2 : EncodingShape.Statement .unhandledC2 := ⟨rfl, rfl, opLength_bounds _⟩
theorem EncodingShape.unhandledC3 : EncodingShape.Statement .unhandledC3 := ⟨rfl, rfl, opLength_bounds _⟩
theorem EncodingShape.unhandledC4 : EncodingShape.Statement .unhandledC4 := ⟨rfl, rfl, opLength_bounds _⟩
theorem EncodingShape.unhandledC5 : EncodingShape.Statement .unhandledC5 := ⟨rfl, rfl, opLength_bounds _⟩
theorem EncodingShape.unhandledC6 : EncodingShape.Statement .unhandledC6 := ⟨rfl, rfl, opLength_bounds _⟩
theorem EncodingShape.unhandledC7 : EncodingShape.Statement .unhandledC7 := ⟨rfl, rfl, opLength_bounds _⟩
theorem EncodingShape.unhandledC8 : EncodingShape.Statement .unhandledC8 := ⟨rfl, rfl, opLength_bounds _⟩
theorem EncodingShape.unhandledC9 : EncodingShape.Statement .unhandledC9 := ⟨rfl, rfl, opLength_bounds _⟩
theorem EncodingShape.unhandledCA : EncodingShape.Statement .unhandledCA := ⟨rfl, rfl, opLength_bounds _⟩
theorem EncodingShape.unhandledCB : EncodingShape.Statement .unhandledCB := ⟨rfl, rfl, opLength_bounds _⟩
theorem EncodingShape.unhandledCC : EncodingShape.Statement .unhandledCC := ⟨rfl, rfl, opLength_bounds _⟩
theorem EncodingShape.unhandledCD : EncodingShape.Statement .unhandledCD := ⟨rfl, rfl, opLength_bounds _⟩
theorem EncodingShape.unhandledCE : EncodingShape.Statement .unhandledCE := ⟨rfl, rfl, opLength_bounds _⟩
theorem EncodingShape.unhandledCF : EncodingShape.Statement .unhandledCF := ⟨rfl, rfl, opLength_bounds _⟩
theorem EncodingShape.unhandledD0 : EncodingShape.Statement .unhandledD0 := ⟨rfl, rfl, opLength_bounds _⟩
theorem EncodingShape.unhandledD1 : EncodingShape.Statement .unhandledD1 := ⟨rfl, rfl, opLength_bounds _⟩
theorem EncodingShape.unhandledD2 : EncodingShape.Statement .unhandledD2 := ⟨rfl, rfl, opLength_bounds _⟩
theorem EncodingShape.unhandledD3 : EncodingShape.Statement .unhandledD3 := ⟨rfl, rfl, opLength_bounds _⟩
theorem EncodingShape.unhandledD4 : EncodingShape.Statement .unhandledD4 := ⟨rfl, rfl, opLength_bounds _⟩
theorem EncodingShape.unhandledD5 : EncodingShape.Statement .unhandledD5 := ⟨rfl, rfl, opLength_bounds _⟩
theorem EncodingShape.unhandledD6 : EncodingShape.Statement .unhandledD6 := ⟨rfl, rfl, opLength_bounds _⟩
theorem EncodingShape.unhandledD7 : EncodingShape.Statement .unhandledD7 := ⟨rfl, rfl, opLength_bounds _⟩
theorem EncodingShape.unhandledD8 : EncodingShape.Statement .unhandledD8 := ⟨rfl, rfl, opLength_bounds _⟩
theorem EncodingShape.unhandledD9 : EncodingShape.Statement .unhandledD9 := ⟨rfl, rfl, opLength_bounds _⟩
theorem EncodingShape.unhandledDA : EncodingShape.Statement .unhandledDA := ⟨rfl, rfl, opLength_bounds _⟩
theorem EncodingShape.unhandledDB : EncodingShape.Statement .unhandledDB := ⟨rfl, rfl, opLength_bounds _⟩
theorem EncodingShape.unhandledDC : EncodingShape.Statement .unhandledDC := ⟨rfl, rfl, opLength_bounds _⟩
theorem EncodingShape.unhandledDD : EncodingShape.Statement .unhandledDD := ⟨rfl, rfl, opLength_bounds _⟩
theorem EncodingShape.unhandledDE : EncodingShape.Statement .unhandledDE := ⟨rfl, rfl, opLength_bounds _⟩
theorem EncodingShape.unhandledDF : EncodingShape.Statement .unhandledDF := ⟨rfl, rfl, opLength_bounds _⟩
theorem EncodingShape.unhandledE0 : EncodingShape.Statement .unhandledE0 := ⟨rfl, rfl, opLength_bounds _⟩
theorem EncodingShape.unhandledE1 : EncodingShape.Statement .unhandledE1 := ⟨rfl, rfl, opLength_bounds _⟩
theorem EncodingShape.unhandledE2 : EncodingShape.Statement .unhandledE2 := ⟨rfl, rfl, opLength_bounds _⟩
theorem EncodingShape.unhandledE3 : EncodingShape.Statement .unhandledE3 := ⟨rfl, rfl, opLength_bounds _⟩
theorem EncodingShape.unhandledE4 : EncodingShape.Statement .unhandledE4 := ⟨rfl, rfl, opLength_bounds _⟩
theorem EncodingShape.unhandledE5 : EncodingShape.Statement .unhandledE5 := ⟨rfl, rfl, opLength_bounds _⟩
theorem EncodingShape.unhandledE6 : EncodingShape.Statement .unhandledE6 := ⟨rfl, rfl, opLength_bounds _⟩
theorem EncodingShape.unhandledE7 : EncodingShape.Statement .unhandledE7 := ⟨rfl, rfl, opLength_bounds _⟩
theorem EncodingShape.unhandledE8 : EncodingShape.Statement .unhandledE8 := ⟨rfl, rfl, opLength_bounds _⟩
theorem EncodingShape.unhandledE9 : EncodingShape.Statement .unhandledE9 := ⟨rfl, rfl, opLength_bounds _⟩
theorem EncodingShape.unhandledEA : EncodingShape.Statement .unhandledEA := ⟨rfl, rfl, opLength_bounds _⟩
theorem EncodingShape.unhandledEB : EncodingShape.Statement .unhandledEB := ⟨rfl, rfl, opLength_bounds _⟩
theorem EncodingShape.unhandledEC : EncodingShape.Statement .unhandledEC := ⟨rfl, rfl, opLength_bounds _⟩
theorem EncodingShape.unhandledED : EncodingShape.Statement .unhandledED := ⟨rfl, rfl, opLength_bounds _⟩
theorem EncodingShape.unhandledEE : EncodingShape.Statement .unhandledEE := ⟨rfl, rfl, opLength_bounds _⟩
theorem EncodingShape.unhandledEF : EncodingShape.Statement .unhandledEF := ⟨rfl, rfl, opLength_bounds _⟩
theorem EncodingShape.unhandledF0 : EncodingShape.Statement .unhandledF0 := ⟨rfl, rfl, opLength_bounds _⟩
theorem EncodingShape.unhandledF1 : EncodingShape.Statement .unhandledF1 := ⟨rfl, rfl, opLength_bounds _⟩
theorem EncodingShape.unhandledF2 : EncodingShape.Statement .unhandledF2 := ⟨rfl, rfl, opLength_bounds _⟩
theorem EncodingShape.unhandledF3 : EncodingShape.Statement .unhandledF3 := ⟨rfl, rfl, opLength_bounds _⟩
theorem EncodingShape.unhandledF4 : EncodingShape.Statement .unhandledF4 := ⟨rfl, rfl, opLength_bounds _⟩
theorem EncodingShape.unhandledF5 : EncodingShape.Statement .unhandledF5 := ⟨rfl, rfl, opLength_bounds _⟩
theorem EncodingShape.unhandledF6 : EncodingShape.Statement .unhandledF6 := ⟨rfl, rfl, opLength_bounds _⟩
theorem EncodingShape.unhandledF7 : EncodingShape.Statement .unhandledF7 := ⟨rfl, rfl, opLength_bounds _⟩
theorem EncodingShape.unhandledF8 : EncodingShape.Statement .unhandledF8 := ⟨rfl, rfl, opLength_bounds _⟩
theorem EncodingShape.unhandledF9 : EncodingShape.Statement .unhandledF9 := ⟨rfl, rfl, opLength_bounds _⟩
theorem EncodingShape.unhandledFA : EncodingShape.Statement .unhandledFA := ⟨rfl, rfl, opLength_bounds _⟩
theorem EncodingShape.unhandledFB : EncodingShape.Statement .unhandledFB := ⟨rfl, rfl, opLength_bounds _⟩
theorem EncodingShape.unhandledFC : EncodingShape.Statement .unhandledFC := ⟨rfl, rfl, opLength_bounds _⟩
theorem EncodingShape.unhandledFD : EncodingShape.Statement .unhandledFD := ⟨rfl, rfl, opLength_bounds _⟩
theorem EncodingShape.unhandledFE : EncodingShape.Statement .unhandledFE := ⟨rfl, rfl, opLength_bounds _⟩
theorem EncodingShape.unhandledFF : EncodingShape.Statement .unhandledFF := ⟨rfl, rfl, opLength_bounds _⟩

end Sys2Proof.Laws
end

