-- ==== Sys2Proof/Laws/Step.lean ====
section
/-! SUPPORT. Everything a step can do, said once: one case per kind of instruction. -/

namespace Sys2Proof.Machine

/-- What can follow an instruction: a byte loaded into `A` at a cost of two to four cycles, a call, or a reported
Unhandled opcode. -/
inductive Effect (i : Instr) (s : State) : State → Prop where
  | load (v : Byte) (cost : Int) (h₁ : 2 ≤ cost) (h₂ : cost ≤ 4) :
      Effect i s ((((s.setPC (s.pc + 2)).spend cost).setA v).setZN v)
  | call (t : Word) (h : i = .jsr t) :
      Effect i s ((((s.setMem ((s.mem.write (stackAddr s.sp) (lowByte (returnAddr (s.pc + 3)))).write
        (stackAddr s.sp + 1) (highByte (returnAddr (s.pc + 3))))).spend 6).setSP (pushedSP s.sp)).setPC t)
  | unhandled (h : decodeClass i.opcode = .unhandled) :
      Effect i s (((s.setPC (s.pc + 1)).spend 1).report (.unhandledOpcode i.opcode s.pc))

theorem unhandledOpcode_effect {i : Instr} {s t : State} (h : decodeClass i.opcode = .unhandled)
    (e : unhandledOpcode i.opcode s = .next t) : Effect i s t := by
  rw [unhandledOpcode_eq] at e
  injection e with e
  exact e ▸ .unhandled h

theorem State.pastByte_pastByte (s : State) : s.pastByte.pastByte = (s.setPC (s.pc + 2)).spend 2 := by
  simp only [State.pastByte, State.setPC, State.spend, BitVec.add_assoc]
  congr 1
  omega

theorem exec_effect {i : Instr} {s t : State} (e : exec i s = .next t) : Effect i s t := by
  cases i with
  | ldaIm b1 =>
    simp only [exec, execLdaIm, passOpcode_eq, passByte_eq, Access.bind_ok, loadA_eq, Access.settle_ok] at e
    injection e with e
    subst e
    rw [State.pastByte_pastByte]
    exact .load b1 2 (by decide) (by decide)
  | ldaZp b1 =>
    simp only [exec, execLdaZp, passOpcode_eq, passByte_eq, readByte_eq, Access.bind_ok, loadA_eq, Access.settle_ok] at e
    injection e with e
    subst e
    rw [State.pastByte_pastByte]
    have := Effect.load (i := .ldaZp b1) (s := s) (s.mem.read (eaZp b1).toNat) 3 (by decide) (by decide)
    simpa [State.setPC, State.spend, State.setA, State.setZN, Int.sub_sub] using this
  | ldaZpx b1 =>
    simp only [exec, execLdaZpx, passOpcode_eq, passByte_eq, internalCycle, readByte_eq, Access.bind_ok, loadA_eq,
      Access.settle_ok] at e
    injection e with e
    subst e
    rw [State.pastByte_pastByte]
    have := Effect.load (i := .ldaZpx b1) (s := s) (s.mem.read (eaZpx b1 s.x).toNat) 4 (by decide) (by decide)
    simpa [State.setPC, State.spend, State.setA, State.setZN, Int.sub_sub] using this
  | jsr t =>
    simp only [exec, execJsr, passOpcode_eq, passWord_eq, Access.bind_ok, callTo_eq, Access.settle_ok] at e
    injection e with e
    subst e
    have := Effect.call (i := .jsr t) (s := s) t rfl
    simpa [State.pastByte, State.setPC, State.spend, State.setSP, State.setMem, Int.sub_sub, BitVec.add_assoc] using this
  | unhandled00 => exact unhandledOpcode_effect rfl e
  | unhandled01 => exact unhandledOpcode_effect rfl e
  | unhandled02 => exact unhandledOpcode_effect rfl e
  | unhandled03 => exact unhandledOpcode_effect rfl e
  | unhandled04 => exact unhandledOpcode_effect rfl e
  | unhandled05 => exact unhandledOpcode_effect rfl e
  | unhandled06 => exact unhandledOpcode_effect rfl e
  | unhandled07 => exact unhandledOpcode_effect rfl e
  | unhandled08 => exact unhandledOpcode_effect rfl e
  | unhandled09 => exact unhandledOpcode_effect rfl e
  | unhandled0A => exact unhandledOpcode_effect rfl e
  | unhandled0B => exact unhandledOpcode_effect rfl e
  | unhandled0C => exact unhandledOpcode_effect rfl e
  | unhandled0D => exact unhandledOpcode_effect rfl e
  | unhandled0E => exact unhandledOpcode_effect rfl e
  | unhandled0F => exact unhandledOpcode_effect rfl e
  | unhandled10 => exact unhandledOpcode_effect rfl e
  | unhandled11 => exact unhandledOpcode_effect rfl e
  | unhandled12 => exact unhandledOpcode_effect rfl e
  | unhandled13 => exact unhandledOpcode_effect rfl e
  | unhandled14 => exact unhandledOpcode_effect rfl e
  | unhandled15 => exact unhandledOpcode_effect rfl e
  | unhandled16 => exact unhandledOpcode_effect rfl e
  | unhandled17 => exact unhandledOpcode_effect rfl e
  | unhandled18 => exact unhandledOpcode_effect rfl e
  | unhandled19 => exact unhandledOpcode_effect rfl e
  | unhandled1A => exact unhandledOpcode_effect rfl e
  | unhandled1B => exact unhandledOpcode_effect rfl e
  | unhandled1C => exact unhandledOpcode_effect rfl e
  | unhandled1D => exact unhandledOpcode_effect rfl e
  | unhandled1E => exact unhandledOpcode_effect rfl e
  | unhandled1F => exact unhandledOpcode_effect rfl e
  | unhandled21 => exact unhandledOpcode_effect rfl e
  | unhandled22 => exact unhandledOpcode_effect rfl e
  | unhandled23 => exact unhandledOpcode_effect rfl e
  | unhandled24 => exact unhandledOpcode_effect rfl e
  | unhandled25 => exact unhandledOpcode_effect rfl e
  | unhandled26 => exact unhandledOpcode_effect rfl e
  | unhandled27 => exact unhandledOpcode_effect rfl e
  | unhandled28 => exact unhandledOpcode_effect rfl e
  | unhandled29 => exact unhandledOpcode_effect rfl e
  | unhandled2A => exact unhandledOpcode_effect rfl e
  | unhandled2B => exact unhandledOpcode_effect rfl e
  | unhandled2C => exact unhandledOpcode_effect rfl e
  | unhandled2D => exact unhandledOpcode_effect rfl e
  | unhandled2E => exact unhandledOpcode_effect rfl e
  | unhandled2F => exact unhandledOpcode_effect rfl e
  | unhandled30 => exact unhandledOpcode_effect rfl e
  | unhandled31 => exact unhandledOpcode_effect rfl e
  | unhandled32 => exact unhandledOpcode_effect rfl e
  | unhandled33 => exact unhandledOpcode_effect rfl e
  | unhandled34 => exact unhandledOpcode_effect rfl e
  | unhandled35 => exact unhandledOpcode_effect rfl e
  | unhandled36 => exact unhandledOpcode_effect rfl e
  | unhandled37 => exact unhandledOpcode_effect rfl e
  | unhandled38 => exact unhandledOpcode_effect rfl e
  | unhandled39 => exact unhandledOpcode_effect rfl e
  | unhandled3A => exact unhandledOpcode_effect rfl e
  | unhandled3B => exact unhandledOpcode_effect rfl e
  | unhandled3C => exact unhandledOpcode_effect rfl e
  | unhandled3D => exact unhandledOpcode_effect rfl e
  | unhandled3E => exact unhandledOpcode_effect rfl e
  | unhandled3F => exact unhandledOpcode_effect rfl e
  | unhandled40 => exact unhandledOpcode_effect rfl e
  | unhandled41 => exact unhandledOpcode_effect rfl e
  | unhandled42 => exact unhandledOpcode_effect rfl e
  | unhandled43 => exact unhandledOpcode_effect rfl e
  | unhandled44 => exact unhandledOpcode_effect rfl e
  | unhandled45 => exact unhandledOpcode_effect rfl e
  | unhandled46 => exact unhandledOpcode_effect rfl e
  | unhandled47 => exact unhandledOpcode_effect rfl e
  | unhandled48 => exact unhandledOpcode_effect rfl e
  | unhandled49 => exact unhandledOpcode_effect rfl e
  | unhandled4A => exact unhandledOpcode_effect rfl e
  | unhandled4B => exact unhandledOpcode_effect rfl e
  | unhandled4C => exact unhandledOpcode_effect rfl e
  | unhandled4D => exact unhandledOpcode_effect rfl e
  | unhandled4E => exact unhandledOpcode_effect rfl e
  | unhandled4F => exact unhandledOpcode_effect rfl e
  | unhandled50 => exact unhandledOpcode_effect rfl e
  | unhandled51 => exact unhandledOpcode_effect rfl e
  | unhandled52 => exact unhandledOpcode_effect rfl e
  | unhandled53 => exact unhandledOpcode_effect rfl e
  | unhandled54 => exact unhandledOpcode_effect rfl e
  | unhandled55 => exact unhandledOpcode_effect rfl e
  | unhandled56 => exact unhandledOpcode_effect rfl e
  | unhandled57 => exact unhandledOpcode_effect rfl e
  | unhandled58 => exact unhandledOpcode_effect rfl e
  | unhandled59 => exact unhandledOpcode_effect rfl e
  | unhandled5A => exact unhandledOpcode_effect rfl e
  | unhandled5B => exact unhandledOpcode_effect rfl e
  | unhandled5C => exact unhandledOpcode_effect rfl e
  | unhandled5D => exact unhandledOpcode_effect rfl e
  | unhandled5E => exact unhandledOpcode_effect rfl e
  | unhandled5F => exact unhandledOpcode_effect rfl e
  | unhandled60 => exact unhandledOpcode_effect rfl e
  | unhandled61 => exact unhandledOpcode_effect rfl e
  | unhandled62 => exact unhandledOpcode_effect rfl e
  | unhandled63 => exact unhandledOpcode_effect rfl e
  | unhandled64 => exact unhandledOpcode_effect rfl e
  | unhandled65 => exact unhandledOpcode_effect rfl e
  | unhandled66 => exact unhandledOpcode_effect rfl e
  | unhandled67 => exact unhandledOpcode_effect rfl e
  | unhandled68 => exact unhandledOpcode_effect rfl e
  | unhandled69 => exact unhandledOpcode_effect rfl e
  | unhandled6A => exact unhandledOpcode_effect rfl e
  | unhandled6B => exact unhandledOpcode_effect rfl e
  | unhandled6C => exact unhandledOpcode_effect rfl e
  | unhandled6D => exact unhandledOpcode_effect rfl e
  | unhandled6E => exact unhandledOpcode_effect rfl e
  | unhandled6F => exact unhandledOpcode_effect rfl e
  | unhandled70 => exact unhandledOpcode_effect rfl e
  | unhandled71 => exact unhandledOpcode_effect rfl e
  | unhandled72 => exact unhandledOpcode_effect rfl e
  | unhandled73 => exact unhandledOpcode_effect rfl e
  | unhandled74 => exact unhandledOpcode_effect rfl e
  | unhandled75 => exact unhandledOpcode_effect rfl e
  | unhandled76 => exact unhandledOpcode_effect rfl e
  | unhandled77 => exact unhandledOpcode_effect rfl e
  | unhandled78 => exact unhandledOpcode_effect rfl e
  | unhandled79 => exact unhandledOpcode_effect rfl e
  | unhandled7A => exact unhandledOpcode_effect rfl e
  | unhandled7B => exact unhandledOpcode_effect rfl e
  | unhandled7C => exact unhandledOpcode_effect rfl e
  | unhandled7D => exact unhandledOpcode_effect rfl e
  | unhandled7E => exact unhandledOpcode_effect rfl e
  | unhandled7F => exact unhandledOpcode_effect rfl e
  | unhandled80 => exact unhandledOpcode_effect rfl e
  | unhandled81 => exact unhandledOpcode_effect rfl e
  | unhandled82 => exact unhandledOpcode_effect rfl e
  | unhandled83 => exact unhandledOpcode_effect rfl e
  | unhandled84 => exact unhandledOpcode_effect rfl e
  | unhandled85 => exact unhandledOpcode_effect rfl e
  | unhandled86 => exact unhandledOpcode_effect rfl e
  | unhandled87 => exact unhandledOpcode_effect rfl e
  | unhandled88 => exact unhandledOpcode_effect rfl e
  | unhandled89 => exact unhandledOpcode_effect rfl e
  | unhandled8A => exact unhandledOpcode_effect rfl e
  | unhandled8B => exact unhandledOpcode_effect rfl e
  | unhandled8C => exact unhandledOpcode_effect rfl e
  | unhandled8D => exact unhandledOpcode_effect rfl e
  | unhandled8E => exact unhandledOpcode_effect rfl e
  | unhandled8F => exact unhandledOpcode_effect rfl e
  | unhandled90 => exact unhandledOpcode_effect rfl e
  | unhandled91 => exact unhandledOpcode_effect rfl e
  | unhandled92 => exact unhandledOpcode_effect rfl e
  | unhandled93 => exact unhandledOpcode_effect rfl e
  | unhandled94 => exact unhandledOpcode_effect rfl e
  | unhandled95 => exact unhandledOpcode_effect rfl e
  | unhandled96 => exact unhandledOpcode_effect rfl e
  | unhandled97 => exact unhandledOpcode_effect rfl e
  | unhandled98 => exact unhandledOpcode_effect rfl e
  | unhandled99 => exact unhandledOpcode_effect rfl e
  | unhandled9A => exact unhandledOpcode_effect rfl e
  | unhandled9B => exact unhandledOpcode_effect rfl e
  | unhandled9C => exact unhandledOpcode_effect rfl e
  | unhandled9D => exact unhandledOpcode_effect rfl e
  | unhandled9E => exact unhandledOpcode_effect rfl e
  | unhandled9F => exact unhandledOpcode_effect rfl e
  | unhandledA0 => exact unhandledOpcode_effect rfl e
  | unhandledA1 => exact unhandledOpcode_effect rfl e
  | unhandledA2 => exact unhandledOpcode_effect rfl e
  | unhandledA3 => exact unhandledOpcode_effect rfl e
  | unhandledA4 => exact unhandledOpcode_effect rfl e
  | unhandledA6 => exact unhandledOpcode_effect rfl e
  | unhandledA7 => exact unhandledOpcode_effect rfl e
  | unhandledA8 => exact unhandledOpcode_effect rfl e
  | unhandledAA => exact unhandledOpcode_effect rfl e
  | unhandledAB => exact unhandledOpcode_effect rfl e
  | unhandledAC => exact unhandledOpcode_effect rfl e
  | unhandledAD => exact unhandledOpcode_effect rfl e
  | unhandledAE => exact unhandledOpcode_effect rfl e
  | unhandledAF => exact unhandledOpcode_effect rfl e
  | unhandledB0 => exact unhandledOpcode_effect rfl e
  | unhandledB1 => exact unhandledOpcode_effect rfl e
  | unhandledB2 => exact unhandledOpcode_effect rfl e
  | unhandledB3 => exact unhandledOpcode_effect rfl e
  | unhandledB4 => exact unhandledOpcode_effect rfl e
  | unhandledB6 => exact unhandledOpcode_effect rfl e
  | unhandledB7 => exact unhandledOpcode_effect rfl e
  | unhandledB8 => exact unhandledOpcode_effect rfl e
  | unhandledB9 => exact unhandledOpcode_effect rfl e
  | unhandledBA => exact unhandledOpcode_effect rfl e
  | unhandledBB => exact unhandledOpcode_effect rfl e
  | unhandledBC => exact unhandledOpcode_effect rfl e
  | unhandledBD => exact unhandledOpcode_effect rfl e
  | unhandledBE => exact unhandledOpcode_effect rfl e
  | unhandledBF => exact unhandledOpcode_effect rfl e
  | unhandledC0 => exact unhandledOpcode_effect rfl e
  | unhandledC1 => exact unhandledOpcode_effect rfl e
  | unhandledC2 => exact unhandledOpcode_effect rfl e
  | unhandledC3 => exact unhandledOpcode_effect rfl e
  | unhandledC4 => exact unhandledOpcode_effect rfl e
  | unhandledC5 => exact unhandledOpcode_effect rfl e
  | unhandledC6 => exact unhandledOpcode_effect rfl e
  | unhandledC7 => exact unhandledOpcode_effect rfl e
  | unhandledC8 => exact unhandledOpcode_effect rfl e
  | unhandledC9 => exact unhandledOpcode_effect rfl e
  | unhandledCA => exact unhandledOpcode_effect rfl e
  | unhandledCB => exact unhandledOpcode_effect rfl e
  | unhandledCC => exact unhandledOpcode_effect rfl e
  | unhandledCD => exact unhandledOpcode_effect rfl e
  | unhandledCE => exact unhandledOpcode_effect rfl e
  | unhandledCF => exact unhandledOpcode_effect rfl e
  | unhandledD0 => exact unhandledOpcode_effect rfl e
  | unhandledD1 => exact unhandledOpcode_effect rfl e
  | unhandledD2 => exact unhandledOpcode_effect rfl e
  | unhandledD3 => exact unhandledOpcode_effect rfl e
  | unhandledD4 => exact unhandledOpcode_effect rfl e
  | unhandledD5 => exact unhandledOpcode_effect rfl e
  | unhandledD6 => exact unhandledOpcode_effect rfl e
  | unhandledD7 => exact unhandledOpcode_effect rfl e
  | unhandledD8 => exact unhandledOpcode_effect rfl e
  | unhandledD9 => exact unhandledOpcode_effect rfl e
  | unhandledDA => exact unhandledOpcode_effect rfl e
  | unhandledDB => exact unhandledOpcode_effect rfl e
  | unhandledDC => exact unhandledOpcode_effect rfl e
  | unhandledDD => exact unhandledOpcode_effect rfl e
  | unhandledDE => exact unhandledOpcode_effect rfl e
  | unhandledDF => exact unhandledOpcode_effect rfl e
  | unhandledE0 => exact unhandledOpcode_effect rfl e
  | unhandledE1 => exact unhandledOpcode_effect rfl e
  | unhandledE2 => exact unhandledOpcode_effect rfl e
  | unhandledE3 => exact unhandledOpcode_effect rfl e
  | unhandledE4 => exact unhandledOpcode_effect rfl e
  | unhandledE5 => exact unhandledOpcode_effect rfl e
  | unhandledE6 => exact unhandledOpcode_effect rfl e
  | unhandledE7 => exact unhandledOpcode_effect rfl e
  | unhandledE8 => exact unhandledOpcode_effect rfl e
  | unhandledE9 => exact unhandledOpcode_effect rfl e
  | unhandledEA => exact unhandledOpcode_effect rfl e
  | unhandledEB => exact unhandledOpcode_effect rfl e
  | unhandledEC => exact unhandledOpcode_effect rfl e
  | unhandledED => exact unhandledOpcode_effect rfl e
  | unhandledEE => exact unhandledOpcode_effect rfl e
  | unhandledEF => exact unhandledOpcode_effect rfl e
  | unhandledF0 => exact unhandledOpcode_effect rfl e
  | unhandledF1 => exact unhandledOpcode_effect rfl e
  | unhandledF2 => exact unhandledOpcode_effect rfl e
  | unhandledF3 => exact unhandledOpcode_effect rfl e
  | unhandledF4 => exact unhandledOpcode_effect rfl e
  | unhandledF5 => exact unhandledOpcode_effect rfl e
  | unhandledF6 => exact unhandledOpcode_effect rfl e
  | unhandledF7 => exact unhandledOpcode_effect rfl e
  | unhandledF8 => exact unhandledOpcode_effect rfl e
  | unhandledF9 => exact unhandledOpcode_effect rfl e
  | unhandledFA => exact unhandledOpcode_effect rfl e
  | unhandledFB => exact unhandledOpcode_effect rfl e
  | unhandledFC => exact unhandledOpcode_effect rfl e
  | unhandledFD => exact unhandledOpcode_effect rfl e
  | unhandledFE => exact unhandledOpcode_effect rfl e
  | unhandledFF => exact unhandledOpcode_effect rfl e

/-- Everything a step can do: run the instruction at the program counter, or nothing where the state is not Running. -/
theorem step_cases {s t : State} (e : step s = .next t) :
    (s.running = true ∧ exec (fetchInstr s) s = .next t) ∨ (s.running = false ∧ t = s) := by
  unfold step at e
  split at e
  · next h => exact .inl ⟨h, e⟩
  · next h =>
    injection e with e
    exact .inr ⟨Bool.eq_false_iff.mpr h, e.symm⟩

/-- The Running half of `step_cases`, with the effect spelt out. -/
theorem step_effect {s t : State} (h : s.running = true) (e : step s = .next t) : Effect (fetchInstr s) s t := by
  rcases step_cases e with ⟨-, e⟩ | ⟨h', -⟩
  · exact exec_effect e
  · rw [h] at h'
    cases h'

end Sys2Proof.Machine
end

