-- ==== Sys2Proof/Laws/Session.lean ====
section
/-! SUPPORT. Everything the host's operations can do, said once. -/

namespace Sys2Proof.Machine

/-- A load that is not refused leaves the state with the memory its byte writes leave (R113). -/
theorem hostLoad_next {addr : Nat} {bytes : List Byte} {s t : State} (e : hostLoad addr bytes s = .next t) :
    ∃ m, memWriteBytes s.mem addr bytes = .ok m ∧ t = s.setMem m := by
  unfold hostLoad at e
  split at e
  · next m h =>
    injection e with e
    exact ⟨m, h, e.symm⟩
  · cases e

/-- The loop makes one step from a Running state (R65). -/
theorem runLoop_succ {n : Nat} {s t : State} (hr : s.running = true) (e : step s = .next t) :
    runLoop (n + 1) s = runLoop n t := by
  simp [runLoop, hr, e]

/-- The loop makes no step from a state that is not Running (R111). -/
theorem runLoop_not_running {n : Nat} {s : State} (hr : s.running = false) : runLoop n s = .next s := by
  cases n <;> simp [runLoop, hr]

end Sys2Proof.Machine
end

