-- ==== Sys2Proof/Tests/Slice0.lean ====
section
/-! SUPPORT. Tests: the words of the opcode table, one step of each family from spec/95_test_vectors.md (the vector is named
in each comment), the well-formedness smoke test, and for every obligation with hypotheses a concrete case that meets them
all. -/

namespace Sys2Proof.Tests

open Sys2Proof Sys2Proof.Machine

/-! ### Decoding: every row of the opcode table, by its byte (opcode_table.json; an operand the row gives no bits is 0) -/

theorem test_decode_row0 : [0x00, 0x01, 0x02, 0x03, 0x04, 0x05, 0x06, 0x07, 0x08, 0x09, 0x0A, 0x0B, 0x0C, 0x0D, 0x0E, 0x0F].map (decodeTableWord 8) =
    [.unhandled00, .unhandled01, .unhandled02, .unhandled03, .unhandled04, .unhandled05, .unhandled06, .unhandled07,
     .unhandled08, .unhandled09, .unhandled0A, .unhandled0B, .unhandled0C, .unhandled0D, .unhandled0E, .unhandled0F].map some := by decide

theorem test_decode_row1 : [0x10, 0x11, 0x12, 0x13, 0x14, 0x15, 0x16, 0x17, 0x18, 0x19, 0x1A, 0x1B, 0x1C, 0x1D, 0x1E, 0x1F].map (decodeTableWord 8) =
    [.unhandled10, .unhandled11, .unhandled12, .unhandled13, .unhandled14, .unhandled15, .unhandled16, .unhandled17,
     .unhandled18, .unhandled19, .unhandled1A, .unhandled1B, .unhandled1C, .unhandled1D, .unhandled1E, .unhandled1F].map some := by decide

theorem test_decode_row2 : [0x20, 0x21, 0x22, 0x23, 0x24, 0x25, 0x26, 0x27, 0x28, 0x29, 0x2A, 0x2B, 0x2C, 0x2D, 0x2E, 0x2F].map (decodeTableWord 8) =
    [.jsr 0, .unhandled21, .unhandled22, .unhandled23, .unhandled24, .unhandled25, .unhandled26, .unhandled27,
     .unhandled28, .unhandled29, .unhandled2A, .unhandled2B, .unhandled2C, .unhandled2D, .unhandled2E, .unhandled2F].map some := by decide

theorem test_decode_row3 : [0x30, 0x31, 0x32, 0x33, 0x34, 0x35, 0x36, 0x37, 0x38, 0x39, 0x3A, 0x3B, 0x3C, 0x3D, 0x3E, 0x3F].map (decodeTableWord 8) =
    [.unhandled30, .unhandled31, .unhandled32, .unhandled33, .unhandled34, .unhandled35, .unhandled36, .unhandled37,
     .unhandled38, .unhandled39, .unhandled3A, .unhandled3B, .unhandled3C, .unhandled3D, .unhandled3E, .unhandled3F].map some := by decide

theorem test_decode_row4 : [0x40, 0x41, 0x42, 0x43, 0x44, 0x45, 0x46, 0x47, 0x48, 0x49, 0x4A, 0x4B, 0x4C, 0x4D, 0x4E, 0x4F].map (decodeTableWord 8) =
    [.unhandled40, .unhandled41, .unhandled42, .unhandled43, .unhandled44, .unhandled45, .unhandled46, .unhandled47,
     .unhandled48, .unhandled49, .unhandled4A, .unhandled4B, .unhandled4C, .unhandled4D, .unhandled4E, .unhandled4F].map some := by decide

theorem test_decode_row5 : [0x50, 0x51, 0x52, 0x53, 0x54, 0x55, 0x56, 0x57, 0x58, 0x59, 0x5A, 0x5B, 0x5C, 0x5D, 0x5E, 0x5F].map (decodeTableWord 8) =
    [.unhandled50, .unhandled51, .unhandled52, .unhandled53, .unhandled54, .unhandled55, .unhandled56, .unhandled57,
     .unhandled58, .unhandled59, .unhandled5A, .unhandled5B, .unhandled5C, .unhandled5D, .unhandled5E, .unhandled5F].map some := by decide

theorem test_decode_row6 : [0x60, 0x61, 0x62, 0x63, 0x64, 0x65, 0x66, 0x67, 0x68, 0x69, 0x6A, 0x6B, 0x6C, 0x6D, 0x6E, 0x6F].map (decodeTableWord 8) =
    [.unhandled60, .unhandled61, .unhandled62, .unhandled63, .unhandled64, .unhandled65, .unhandled66, .unhandled67,
     .unhandled68, .unhandled69, .unhandled6A, .unhandled6B, .unhandled6C, .unhandled6D, .unhandled6E, .unhandled6F].map some := by decide

theorem test_decode_row7 : [0x70, 0x71, 0x72, 0x73, 0x74, 0x75, 0x76, 0x77, 0x78, 0x79, 0x7A, 0x7B, 0x7C, 0x7D, 0x7E, 0x7F].map (decodeTableWord 8) =
    [.unhandled70, .unhandled71, .unhandled72, .unhandled73, .unhandled74, .unhandled75, .unhandled76, .unhandled77,
     .unhandled78, .unhandled79, .unhandled7A, .unhandled7B, .unhandled7C, .unhandled7D, .unhandled7E, .unhandled7F].map some := by decide

theorem test_decode_row8 : [0x80, 0x81, 0x82, 0x83, 0x84, 0x85, 0x86, 0x87, 0x88, 0x89, 0x8A, 0x8B, 0x8C, 0x8D, 0x8E, 0x8F].map (decodeTableWord 8) =
    [.unhandled80, .unhandled81, .unhandled82, .unhandled83, .unhandled84, .unhandled85, .unhandled86, .unhandled87,
     .unhandled88, .unhandled89, .unhandled8A, .unhandled8B, .unhandled8C, .unhandled8D, .unhandled8E, .unhandled8F].map some := by decide

theorem test_decode_row9 : [0x90, 0x91, 0x92, 0x93, 0x94, 0x95, 0x96, 0x97, 0x98, 0x99, 0x9A, 0x9B, 0x9C, 0x9D, 0x9E, 0x9F].map (decodeTableWord 8) =
    [.unhandled90, .unhandled91, .unhandled92, .unhandled93, .unhandled94, .unhandled95, .unhandled96, .unhandled97,
     .unhandled98, .unhandled99, .unhandled9A, .unhandled9B, .unhandled9C, .unhandled9D, .unhandled9E, .unhandled9F].map some := by decide

theorem test_decode_rowA : [0xA0, 0xA1, 0xA2, 0xA3, 0xA4, 0xA5, 0xA6, 0xA7, 0xA8, 0xA9, 0xAA, 0xAB, 0xAC, 0xAD, 0xAE, 0xAF].map (decodeTableWord 8) =
    [.unhandledA0, .unhandledA1, .unhandledA2, .unhandledA3, .unhandledA4, .ldaZp 0, .unhandledA6, .unhandledA7,
     .unhandledA8, .ldaIm 0, .unhandledAA, .unhandledAB, .unhandledAC, .unhandledAD, .unhandledAE, .unhandledAF].map some := by decide

theorem test_decode_rowB : [0xB0, 0xB1, 0xB2, 0xB3, 0xB4, 0xB5, 0xB6, 0xB7, 0xB8, 0xB9, 0xBA, 0xBB, 0xBC, 0xBD, 0xBE, 0xBF].map (decodeTableWord 8) =
    [.unhandledB0, .unhandledB1, .unhandledB2, .unhandledB3, .unhandledB4, .ldaZpx 0, .unhandledB6, .unhandledB7,
     .unhandledB8, .unhandledB9, .unhandledBA, .unhandledBB, .unhandledBC, .unhandledBD, .unhandledBE, .unhandledBF].map some := by decide

theorem test_decode_rowC : [0xC0, 0xC1, 0xC2, 0xC3, 0xC4, 0xC5, 0xC6, 0xC7, 0xC8, 0xC9, 0xCA, 0xCB, 0xCC, 0xCD, 0xCE, 0xCF].map (decodeTableWord 8) =
    [.unhandledC0, .unhandledC1, .unhandledC2, .unhandledC3, .unhandledC4, .unhandledC5, .unhandledC6, .unhandledC7,
     .unhandledC8, .unhandledC9, .unhandledCA, .unhandledCB, .unhandledCC, .unhandledCD, .unhandledCE, .unhandledCF].map some := by decide

theorem test_decode_rowD : [0xD0, 0xD1, 0xD2, 0xD3, 0xD4, 0xD5, 0xD6, 0xD7, 0xD8, 0xD9, 0xDA, 0xDB, 0xDC, 0xDD, 0xDE, 0xDF].map (decodeTableWord 8) =
    [.unhandledD0, .unhandledD1, .unhandledD2, .unhandledD3, .unhandledD4, .unhandledD5, .unhandledD6, .unhandledD7,
     .unhandledD8, .unhandledD9, .unhandledDA, .unhandledDB, .unhandledDC, .unhandledDD, .unhandledDE, .unhandledDF].map some := by decide

theorem test_decode_rowE : [0xE0, 0xE1, 0xE2, 0xE3, 0xE4, 0xE5, 0xE6, 0xE7, 0xE8, 0xE9, 0xEA, 0xEB, 0xEC, 0xED, 0xEE, 0xEF].map (decodeTableWord 8) =
    [.unhandledE0, .unhandledE1, .unhandledE2, .unhandledE3, .unhandledE4, .unhandledE5, .unhandledE6, .unhandledE7,
     .unhandledE8, .unhandledE9, .unhandledEA, .unhandledEB, .unhandledEC, .unhandledED, .unhandledEE, .unhandledEF].map some := by decide

theorem test_decode_rowF : [0xF0, 0xF1, 0xF2, 0xF3, 0xF4, 0xF5, 0xF6, 0xF7, 0xF8, 0xF9, 0xFA, 0xFB, 0xFC, 0xFD, 0xFE, 0xFF].map (decodeTableWord 8) =
    [.unhandledF0, .unhandledF1, .unhandledF2, .unhandledF3, .unhandledF4, .unhandledF5, .unhandledF6, .unhandledF7,
     .unhandledF8, .unhandledF9, .unhandledFA, .unhandledFB, .unhandledFC, .unhandledFD, .unhandledFE, .unhandledFF].map some := by decide

/-! ### Decoding: words with operands, written out from the formats of R50 and the table of R55 -/

/-- `A9 84`: 1010 1001, 1000 0100. -/
theorem test_word_ldaIm : decode [0b10101001, 0b10000100] = .ok (.ldaIm 0x84, []) := by decide
/-- `A5 10`: 1010 0101, 0001 0000. -/
theorem test_word_ldaZp : decode [0b10100101, 0b00010000] = .ok (.ldaZp 0x10, []) := by decide
/-- `B5 F0`: 1011 0101, 1111 0000. -/
theorem test_word_ldaZpx : decode [0b10110101, 0b11110000] = .ok (.ldaZpx 0xF0, []) := by decide
/-- `20 34 12`: 0010 0000, 0011 0100, 0001 0010; the target is 0x1234. -/
theorem test_word_jsr : decode [0b00100000, 0b00110100, 0b00010010] = .ok (.jsr 0x1234, []) := by decide
/-- `AD 20 42 42` is Unhandled 0xAD and then `JSR $4242` (R59). -/
theorem test_word_unhandled : decode [0xAD, 0x20, 0x42, 0x42] = .ok (.unhandledAD, [0x20, 0x42, 0x42]) := by decide
/-- The second byte of a table word is bits 15 to 8, the third bits 23 to 16. -/
theorem test_tableWord_jsr : decodeTableWord 24 0x123420 = some (.jsr 0x1234) := by decide
theorem test_tableWord_ldaIm : decodeTableWord 16 0x84A9 = some (.ldaIm 0x84) := by decide
/-- Too short to be an instruction. -/
theorem test_truncated : decode [0x20, 0x34] = .error (.truncated 0x20) ∧ decode [0xA9] = .error (.truncated 0xA9) ∧
    decode [] = .error .empty := by decide

/-! ### Well-formed memory: one ill-formed term for each check -/

theorem test_wf_ok : Memory.wf [(0x0000, 0xFF), (0xFFFF, 0x01)] = true := by decide
/-- Addresses must rise. -/
theorem test_wf_unsorted : Memory.wf [(0x0002, 0x01), (0x0001, 0x01)] = false := by decide
/-- No address twice. -/
theorem test_wf_repeated : Memory.wf [(0x0001, 0x01), (0x0001, 0x02)] = false := by decide
/-- 65536 is no address. -/
theorem test_wf_outside : Memory.wf [(65536, 0x01)] = false := by decide
/-- What an unlisted address reads as is not listed. -/
theorem test_wf_unlisted : Memory.wf [(0x0001, 0x00)] = false := by decide

/-! ### One step of each instruction -/

/-- After reset(10), with the program counter and memory given. -/
def start (pc : Word) (mem : Memory) : State := { State.resetWith 10 with pc := pc, mem := mem }

/-- The state after one step, where there is one. -/
def stepped (s : State) : Option State :=
  match step s with
  | .next t => some t
  | .fault _ => none
  | .refused _ => none

/-- T14: the opcode at the top of memory, the operand at 0x0000. -/
theorem test_ldaIm_wraps : (stepped (start 0xFFFF [(0x0000, 0x7F), (0xFFFF, 0xA9)])).map
    (fun t => (t.a, t.flagZ, t.flagN, t.pc, t.cyc)) = some (0x7F, false, false, 0x0001, 8) := by decide
/-- T15 with the operand of T13: begun with one cycle left, the instruction completes and the core halts. -/
theorem test_ldaIm_overruns : (stepped { start 0x0200 [(0x0200, 0xA9), (0x0201, 0xFF)] with cyc := 1 }).map
    (fun t => (t.a, t.flagZ, t.flagN, t.pc, t.cyc, t.runState)) = some (0xFF, false, true, 0x0202, -1, .halted) := by decide
/-- T23: an instruction in the zero page reads its own opcode. -/
theorem test_ldaZp_own_opcode : (stepped (start 0x0000 [(0x0000, 0xA5)])).map
    (fun t => (t.a, t.flagZ, t.flagN, t.pc, t.cyc)) = some (0xA5, false, true, 0x0002, 7) := by decide
/-- T24: the address is 0x0010, never 0x0110. -/
theorem test_ldaZp_page : (stepped (start 0x0200 [(0x0110, 0x44), (0x0200, 0xA5), (0x0201, 0x10)])).map
    (fun t => (t.a, t.flagZ, t.flagN, t.pc, t.cyc)) = some (0x00, true, false, 0x0202, 7) := by decide
/-- T31: 0xF0 + 0x20 wraps to 0x10. -/
theorem test_ldaZpx_wraps :
    (stepped { start 0x0300 [(0x0110, 0x99), (0x0300, 0xB5), (0x0301, 0xF0)] with x := 0x20, a := 0x55 }).map
    (fun t => (t.a, t.flagZ, t.flagN, t.pc, t.cyc, t.x)) = some (0x00, true, false, 0x0302, 6, 0x20) := by decide
/-- T33: 0x80 + 0xFF wraps to 0x7F; the carry sets nothing. -/
theorem test_ldaZpx_no_carry :
    (stepped { start 0x0400 [(0x007F, 0x80), (0x0400, 0xB5), (0x0401, 0x80)] with x := 0xFF }).map
    (fun t => (t.a, t.flagZ, t.flagN, t.flagC, t.pc, t.cyc)) = some (0x80, false, true, false, 0x0402, 6) := by decide
/-- T42: SP = 0xFF writes 0x00FF and 0x0100 and wraps to 0x00. -/
theorem test_jsr_top_of_page :
    (stepped { start 0x0600 [(0x0600, 0x20), (0x0601, 0x34), (0x0602, 0x12)] with sp := 0xFF }).map
    (fun t => (t.pc, t.sp, t.mem.read 0x00FF, t.mem.read 0x0100, t.cyc)) = some (0x1234, 0x00, 0x02, 0x06, 4) := by decide
/-- T43 and T47: the return address is 0xFFFF, the low byte lies lower, no flag changes. -/
theorem test_jsr_wraps :
    (stepped { start 0xFFFD [(0xFFFD, 0x20), (0xFFFF, 0x80)] with flagZ := true, flagN := true }).map
    (fun t => (t.pc, t.mem.read 0x0001, t.mem.read 0x0002, t.flagZ, t.flagN)) =
    some (0x8000, 0xFF, 0xFF, true, true) := by decide
/-- T53: 0x60 is no return; PC wraps. -/
theorem test_unhandled_wraps : (stepped (start 0xFFFF [(0xFFFF, 0x60)])).map
    (fun t => (t.pc, t.sp, t.cyc, t.diag)) = some (0x0000, 0x01, 9, [.unhandledOpcode 0x60 0xFFFF]) := by decide
/-- T52: 0xAD takes no operand bytes. -/
theorem test_unhandled_one_byte : (stepped (start 0x0200 [(0x0200, 0xAD), (0x0201, 0x20), (0x0202, 0x42)])).map
    (fun t => (t.pc, t.cyc, t.diag)) = some (0x0201, 9, [.unhandledOpcode 0xAD 0x0200]) := by decide

/-! ### Host operations and memory -/

/-- T60 and T2: a step in a Halted state changes nothing and replies false. -/
theorem test_step_halted : stepped (State.resetWith 0) = some (State.resetWith 0) ∧ stepReply (State.resetWith 0) = false := by
  decide
/-- T61 and T62: the reply says whether the state after the step is Running. -/
theorem test_step_reply : stepReply { start 0x0200 [(0x0200, 0xA9), (0x0201, 0x01)] with cyc := 3 } = true ∧
    stepReply { start 0x0200 [(0x0200, 0xA9), (0x0201, 0x01)] with cyc := 2 } = false := by decide
/-- T63, T64: the last byte of memory can be loaded, the next cannot. -/
theorem test_load_top : (∃ t, hostLoad 65535 [0x11] (State.resetWith 9) = .next t ∧ t.mem.read 65535 = 0x11 ∧ t.cyc = 9) ∧
    hostLoad 65535 [0x11, 0x22] (State.resetWith 9) = .refused (.loadOutOfRange 65536) := by
  refine ⟨⟨_, rfl, ?_, ?_⟩, rfl⟩ <;> decide
/-- S4: a word written at 0x0010 lies low byte first and reads back. -/
theorem test_word_round_trip : ∃ t, writeWord 0x0010 0xBEEF (State.resetWith 9) = .ok () t ∧ t.mem.read 0x0010 = 0xEF ∧
    t.mem.read 0x0011 = 0xBE ∧ t.cyc = 7 ∧ memReadWord t.mem 0x0010 = .ok 0xBEEF := by
  refine ⟨_, rfl, ?_, ?_, ?_, ?_⟩ <;> decide
/-- Writing what an unlisted address reads as removes the entry; writing another value replaces it. -/
theorem test_write_canonical : Memory.write [(1, 0x11), (2, 0x22)] 1 0x00 = [(2, 0x22)] ∧
    Memory.write [(1, 0x11), (3, 0x33)] 2 0x22 = [(1, 0x11), (2, 0x22), (3, 0x33)] ∧
    Memory.write [(1, 0x11)] 1 0x12 = [(1, 0x12)] := by decide
/-- The word placed at the reset program counter is the first instruction run. -/
theorem test_placed_word_runs : (stepped (State.reset.withFetchWord 24 0x424220)).map (fun t => (t.pc, t.sp, t.cyc)) =
    some (0x4242, 0x02, 3) := by decide

/-! ### Witnesses: for every obligation with hypotheses, a case that meets them all -/

/-- Running, at 0x0200, before `A9 01`, `A5 10`, `B5 10`, `20 34 12` and an Unhandled byte. -/
def beforeIm : State := start 0x0200 [(0x0200, 0xA9), (0x0201, 0x01)]
def beforeZp : State := start 0x0200 [(0x0010, 0x7F), (0x0200, 0xA5), (0x0201, 0x10)]
def beforeZpx : State := { start 0x0200 [(0x0010, 0x7F), (0x0200, 0xB5), (0x0201, 0xF0)] with x := 0x20 }
def beforeJsr : State := start 0x0200 [(0x0200, 0x20), (0x0201, 0x34), (0x0202, 0x12)]
def beforeEA : State := start 0x0200 [(0x0200, 0xEA)]
/-- A state whose latch is set. -/
def latched : State := { State.resetWith 9 with fault := some (.outOfRange 65536) }

theorem witness_EncodeOfDecode : decode [0x20, 0x34, 0x12, 0xEA] = .ok (.jsr 0x1234, [0xEA]) := by decide
theorem witness_DecoderTable_unhandled : ∀ op ∈ [(0x00 : Byte), 0x1F, 0x21, 0xA4, 0xA6, 0xA8, 0xAA, 0xB4, 0xB6, 0xFF],
    op ≠ 0xA9 ∧ op ≠ 0xA5 ∧ op ≠ 0xB5 ∧ op ≠ 0x20 := by decide
theorem witness_StepRunsDecoded : beforeJsr.running = true ∧
    decode [beforeJsr.mem.read beforeJsr.pc.toNat, beforeJsr.mem.read (beforeJsr.pc + 1).toNat,
      beforeJsr.mem.read (beforeJsr.pc + 2).toNat] = .ok (.jsr 0x1234, []) := by decide
theorem witness_StepIsTheSpecsPseudocode : ∀ s ∈ [beforeIm, beforeZp, beforeZpx, beforeJsr, beforeEA], s.running = true := by
  decide
theorem witness_StepOutsideRunningDoesNothing : latched.fault ≠ none ∧ (State.resetWith 0).cyc ≤ 0 := by decide
theorem witness_LdaImmediate : beforeIm.running = true ∧ beforeIm.mem.read beforeIm.pc.toNat = 0xA9 := by decide
theorem witness_LdaZeroPage : beforeZp.running = true ∧ beforeZp.mem.read beforeZp.pc.toNat = 0xA5 ∧
    beforeZp.mem.read (beforeZp.pc + 1).toNat = 0x10 := by decide
theorem witness_LdaZeroPageX : beforeZpx.running = true ∧ beforeZpx.mem.read beforeZpx.pc.toNat = 0xB5 ∧
    beforeZpx.mem.read (beforeZpx.pc + 1).toNat = 0xF0 := by decide
theorem witness_LdaFlagLaw : ∀ p ∈ [((.ldaIm 0x00 : Instr), (2 : Int)), (.ldaZp 0x00, 3), (.ldaZpx 0x00, 4)],
    (p.1 = .ldaIm 0x00 ∧ p.2 = 2) ∨ (p.1 = .ldaZp 0x00 ∧ p.2 = 3) ∨ (p.1 = .ldaZpx 0x00 ∧ p.2 = 4) := by decide
theorem witness_LdaFrame : (∃ t, exec (.ldaIm 0xFF) beforeIm = .next t) ∧ (∃ t, exec (.ldaZp 0xFF) beforeIm = .next t) ∧
    ∃ t, exec (.ldaZpx 0xFF) beforeIm = .next t := ⟨⟨_, rfl⟩, ⟨_, rfl⟩, ⟨_, rfl⟩⟩
/-- Memories that agree on the zero page and differ at 0x0100. -/
theorem witness_ZeroPageLoadsReadZeroPageOnly : (∀ addr ≤ 0x00FF,
    Memory.read ((0x0100, 0x01) :: []) addr = (State.resetWith 9).mem.read addr) ∧
    Memory.read ((0x0100, 0x01) :: []) 0x0100 ≠ (State.resetWith 9).mem.read 0x0100 := by
  refine ⟨fun addr h => ?_, by decide⟩
  have hne : (0x0100 : Nat) ≠ addr := by omega
  simp [Memory.read, hne, State.resetWith]
theorem witness_JsrFrame : (∃ u, exec (.jsr 0x1234) beforeJsr = .next u) ∧ stackAddr beforeJsr.sp = 0x0001 ∧
    (0x0000 : Nat) ≠ 0x0001 ∧ (0x0000 : Nat) ≠ 0x0001 + 1 ∧ (0x0003 : Nat) ≠ 0x0001 ∧ (0x0003 : Nat) ≠ 0x0001 + 1 :=
  ⟨⟨_, rfl⟩, by decide⟩
theorem witness_OverlappingPushes : ({ beforeJsr with sp := 0xFE } : State).sp.toNat < 0xFF ∧
    ({ beforeJsr with sp := 0x00 } : State).sp.toNat < 0xFF := by decide
theorem witness_FetchSeesPushedBytes : (0x0001 : Word).toNat = stackAddr beforeJsr.sp ∧
    (0x00FF : Word).toNat = stackAddr 0xFF := by decide
theorem witness_UnhandledResult : ∀ i ∈ [Instr.unhandled00, .unhandled1F, .unhandled21, .unhandledA4, .unhandledA6,
    .unhandledA8, .unhandledAA, .unhandledB4, .unhandledB6, .unhandledFF],
    i.opcode ≠ 0x20 ∧ i.opcode ≠ 0xA5 ∧ i.opcode ≠ 0xA9 ∧ i.opcode ≠ 0xB5 := by decide
theorem witness_UnhandledFrame : (Instr.unhandledEA.opcode ≠ 0x20 ∧ Instr.unhandledEA.opcode ≠ 0xA5 ∧
    Instr.unhandledEA.opcode ≠ 0xA9 ∧ Instr.unhandledEA.opcode ≠ 0xB5) ∧ ∃ t, exec .unhandledEA beforeEA = .next t :=
  ⟨by decide, ⟨_, rfl⟩⟩
theorem witness_UnhandledContinues : beforeEA.running = true ∧ beforeEA.mem.read beforeEA.pc.toNat ≠ 0x20 ∧
    beforeEA.mem.read beforeEA.pc.toNat ≠ 0xA5 ∧ beforeEA.mem.read beforeEA.pc.toNat ≠ 0xA9 ∧
    beforeEA.mem.read beforeEA.pc.toNat ≠ 0xB5 := by decide
theorem witness_OnlyLdaWritesAZN : (∀ b1 : Byte, Instr.jsr 0x1234 ≠ .ldaIm b1 ∧ Instr.jsr 0x1234 ≠ .ldaZp b1 ∧
    Instr.jsr 0x1234 ≠ .ldaZpx b1) ∧ ∀ b1 : Byte, Instr.unhandledA8 ≠ .ldaIm b1 ∧ Instr.unhandledA8 ≠ .ldaZp b1 ∧
    Instr.unhandledA8 ≠ .ldaZpx b1 := by
  refine ⟨fun b1 => ⟨?_, ?_, ?_⟩, fun b1 => ⟨?_, ?_, ?_⟩⟩ <;> nofun
theorem witness_OnlyJsrWritesMemoryAndSP : (∀ t : Word, Instr.ldaZp 0x10 ≠ .jsr t) ∧ ∀ t : Word, Instr.unhandled21 ≠ .jsr t := by
  refine ⟨fun t => ?_, fun t => ?_⟩ <;> nofun
theorem witness_UnreadStateDoesNotMatter : maskUnread beforeZp = maskUnread { beforeZp with
    a := 0xFF, y := 0x01, flagC := true, flagZ := true, flagN := true, diag := [.unhandledOpcode 0x00 0x0000] } := by decide
theorem witness_CycleCostIsTheTables : Instr.unhandledB4.opcode ≠ 0x20 ∧ Instr.unhandledB4.opcode ≠ 0xA5 ∧
    Instr.unhandledB4.opcode ≠ 0xA9 ∧ Instr.unhandledB4.opcode ≠ 0xB5 := by decide
theorem witness_OverrunIsBounded : ({ beforeJsr with cyc := 1 } : State).running = true := by decide
theorem witness_BoundsProperty : (65535 : Nat) < 65536 ∧ memRead [] 65535 = .ok 0x00 ∧
    memRead [] 65536 = .error (.outOfRange 65536) ∧ memWrite [] 65536 0x01 = .error (.outOfRange 65536) ∧
    memWrite [] 65535 0x01 = .ok [(65535, 0x01)] := by decide
theorem witness_ReadAfterWrite : (65536 : Nat) ≤ 65536 ∧ (65535 : Nat) < 65536 ∧ (0 : Nat) ≠ 65535 := by decide
theorem witness_WordWrite : (65534 : Nat) + 1 < 65536 ∧ (65536 : Nat) ≤ 65536 ∧ (65535 : Nat) + 1 = 65536 ∧
    (0 : Nat) ≠ 65534 ∧ (0 : Nat) ≠ 65534 + 1 := by decide
theorem witness_CanonicalMemoryIsUnique : Memory.wf [(1, 0x11)] = true ∧ Memory.wf (Memory.write [] 1 0x11) = true ∧
    ∀ addr : Nat, Memory.read [(1, 0x11)] addr = Memory.read (Memory.write [] 1 0x11) addr :=
  ⟨by decide, by decide, fun _ => rfl⟩
theorem witness_PlacedWordRunsNext : decodeTableWord 24 0xFFFF20 = some (.jsr 0xFFFF) ∧ State.reset.running = true ∧
    (State.resetWith 0).running = false := by decide
/-- A state that meets `Inv` with a listed byte and a set latch, and the step from it. -/
theorem witness_StepKeepsInv : (Inv { latched with mem := [(65535, 0x01)] } ∧
    ∃ t, step { latched with mem := [(65535, 0x01)] } = .next t) ∧ (Inv beforeJsr ∧ ∃ t, step beforeJsr = .next t) := by
  refine ⟨⟨⟨by decide, ?_⟩, ⟨_, rfl⟩⟩, ⟨⟨by decide, ?_⟩, ⟨_, rfl⟩⟩⟩
  · intro addr h
    injection h with h
    injection h with h
    exact h ▸ (by decide : Config.maxMem ≤ 65536)
  · intro addr h
    cases h
theorem witness_StepKeepsUnfaulted : Unfaulted beforeJsr ∧ ∃ t, step beforeJsr = .next t :=
  ⟨⟨rfl, rfl, rfl, rfl, rfl, rfl, rfl, rfl⟩, ⟨_, rfl⟩⟩
theorem witness_TraceGrowsAndLatchSticks : (∃ t, step beforeEA = .next t) ∧ (∃ t, step latched = .next t) ∧
    latched.fault ≠ none := ⟨⟨_, rfl⟩, ⟨_, rfl⟩, by decide⟩
theorem witness_ExecuteEnds : latched.running = false ∧ ({ beforeEA with cyc := 1 } : State).fault = none ∧
    1 ≤ ({ beforeEA with cyc := 1 } : State).cyc ∧ Inv (State.resetWith 9) ∧ Unfaulted (State.resetWith 9) :=
  ⟨by decide, by decide, by decide, ⟨by decide, fun _ h => by cases h⟩, ⟨rfl, rfl, rfl, rfl, rfl, rfl, rfl, rfl⟩⟩
theorem witness_ExecuteIsRepeatedStep : ({ beforeEA with cyc := 1 } : State).cyc ≤ (1 : Nat) ∧
    (State.resetWith (-3)).cyc ≤ (0 : Nat) ∧ beforeEA.running = true ∧ ∃ t, step beforeEA = .next t :=
  ⟨by decide, by decide, by decide, ⟨_, rfl⟩⟩
theorem witness_EmptyMemoryRunsOutTheBudget : (State.resetWith 6).running = true ∧
    ∀ addr : Nat, (State.resetWith 6).mem.read addr = 0x00 := ⟨by decide, fun _ => rfl⟩
theorem witness_LoadWritesItsBytes : 65535 + [(0x11 : Byte)].length ≤ 65536 ∧ [(0x11 : Byte), 0x22] ≠ [] ∧
    65536 < 65535 + [(0x11 : Byte), 0x22].length ∧ 0 < [(0x11 : Byte)].length := by decide
/-- A load that answers a next state, from a state that meets both invariants. -/
theorem witness_LoadWritesItsBytes_invariants : (∃ t, hostLoad 65535 [0x11] (State.resetWith 9) = .next t) ∧
    Inv (State.resetWith 9) ∧ Unfaulted (State.resetWith 9) :=
  ⟨⟨_, rfl⟩, ⟨by decide, fun _ h => by cases h⟩, ⟨rfl, rfl, rfl, rfl, rfl, rfl, rfl, rfl⟩⟩
theorem witness_SessionNeedsReset : ∀ budget, Request.load 0 [] ≠ .reset budget ∧ Request.execute ≠ .reset budget ∧
    Request.step ≠ .reset budget := by
  intro budget
  refine ⟨?_, ?_, ?_⟩ <;> nofun
theorem witness_RunStateIsAFunction : latched.fault = some (.outOfRange 65536) ∧ (State.resetWith 0).fault = none := by
  decide

end Sys2Proof.Tests
end

section
/-! The address decoder of memory (20_memory.md): where the byte primitives fail, and what a read sees after a write. -/

namespace Sys2Proof.Machine

/-- The fault of a byte read, exactly where the address is outside memory (R30, R31). -/
theorem memRead_outOfRange_iff (m : Memory) (addr : Nat) :
    memRead m addr = .error (.outOfRange addr) ↔ Config.maxMem ≤ addr := by
  constructor
  · intro hfail
    by_contra hvalid
    rw [memRead_eq m (Nat.lt_of_not_le hvalid)] at hfail
    cases hfail
  · exact memRead_invalid m

/-- The fault of a byte write, exactly where the address is outside memory (R30, R32). -/
theorem memWrite_outOfRange_iff (m : Memory) (addr : Nat) (v : Byte) :
    memWrite m addr v = .error (.outOfRange addr) ↔ Config.maxMem ≤ addr := by
  constructor
  · intro hfail
    by_contra hvalid
    rw [memWrite_eq m v (Nat.lt_of_not_le hvalid)] at hfail
    cases hfail
  · exact memWrite_invalid m v

/-- A write changes no other address's read, an address outside memory included, whose read fails as before. -/
theorem memRead_write_other (m : Memory) {addr other : Nat} (v : Byte) (h : other ≠ addr) :
    memRead (m.write addr v) other = memRead m other := by
  simp only [memRead, Memory.read_write_other m v h]

/-- Settles O31, by the laws of `Memory.write`: a write at a valid address answers `m.write addr v`. -/
theorem readAfterWrite : Obligations.ReadAfterWrite := by
  intro m addr v
  refine ⟨memWrite_invalid m v, fun hvalid => ⟨m.write addr v, memWrite_eq m v hvalid, ?_, ?_⟩⟩
  · rw [memRead_eq _ hvalid, Memory.read_write_same]
  · exact fun other hother => memRead_write_other m v hother

/-- Settles O30, by the address decoder's two cases for each byte primitive. -/
theorem boundsProperty : Obligations.BoundsProperty := by
  intro m addr v
  exact ⟨memRead_outOfRange_iff m addr, memWrite_outOfRange_iff m addr v,
    fun hvalid => ⟨memRead_eq m hvalid, m.write addr v, memWrite_eq m v hvalid⟩⟩

end Sys2Proof.Machine
end

section
/-! The word accesses of memory (20_memory.md, 40_engine_primitives.md R73): what a word write leaves, and its two failures. -/

namespace Sys2Proof.Machine

/-- The memory a completed word write leaves: the low byte at the address, the high byte at the next (R33, R35). -/
def Memory.writeWord (m : Memory) (addr : Nat) (w : Word) : Memory :=
  (m.write addr (lowByte w)).write (addr + 1) (highByte w)

@[simp] theorem Memory.read_writeWord_low (m : Memory) (addr : Nat) (w : Word) :
    (m.writeWord addr w).read addr = lowByte w := by
  rw [Memory.writeWord, Memory.read_write_other _ _ (Nat.ne_of_lt addr.lt_succ_self), Memory.read_write_same]

@[simp] theorem Memory.read_writeWord_high (m : Memory) (addr : Nat) (w : Word) :
    (m.writeWord addr w).read (addr + 1) = highByte w :=
  Memory.read_write_same _ _ _

theorem Memory.read_writeWord_other (m : Memory) {addr other : Nat} (w : Word) (hlow : other ≠ addr)
    (hhigh : other ≠ addr + 1) : (m.writeWord addr w).read other = m.read other := by
  rw [Memory.writeWord, Memory.read_write_other _ _ hhigh, Memory.read_write_other _ _ hlow]

/-- A word read whose two bytes are in memory (R33, R35). -/
theorem memReadWord_eq (m : Memory) {addr : Nat} (h : addr + 1 < Config.maxMem) :
    memReadWord m addr = .ok (wordOf (m.read (addr + 1)) (m.read addr)) := by
  simp [memReadWord, memRead_eq m (Nat.lt_of_succ_lt h), memRead_eq m h]

/-- A word read gives the word last written there (R32, R35). -/
theorem memReadWord_writeWord (m : Memory) {addr : Nat} (w : Word) (h : addr + 1 < Config.maxMem) :
    memReadWord (m.writeWord addr w) addr = .ok w := by
  rw [memReadWord_eq _ h, Memory.read_writeWord_high, Memory.read_writeWord_low, wordOf_high_low]

/-- A word write whose two bytes are in memory leaves `Memory.writeWord` and takes two cycles (R73). -/
theorem writeWord_valid (s : State) {addr : Nat} (v : Word) (h : addr + 1 < Config.maxMem) :
    writeWord addr v s = .ok () ((s.setMem (s.mem.writeWord addr v)).spend 2) :=
  writeWord_eq s v h

/-- A word write whose first byte is out of memory fails there and changes nothing (R73). -/
theorem writeWord_firstInvalid (s : State) {addr : Nat} (v : Word) (h : Config.maxMem ≤ addr) :
    writeWord addr v s = .raised (.outOfRange addr) s := by
  simp [writeWord, memWriteWord, memAfterFailedWord, memWrite_invalid s.mem _ h, State.setMem]

/-- A word write of which only the second byte is out of memory fails there, with no cycle spent (R73). -/
theorem writeWord_secondInvalid (s : State) {addr : Nat} (v : Word) (h : addr + 1 = Config.maxMem) :
    writeWord addr v s =
      .raised (.outOfRange (addr + 1)) (s.setMem (memAfterFailedWord s.mem addr v s.cyc)) := by
  simp [writeWord, memWriteWord, memWrite_eq s.mem _ (Nat.lt_of_succ_le h.le), memWrite_invalid _ _ h.ge]

/-- Settles O32, by where the two bytes stand: both in memory, the first out of it, or only the second. -/
theorem wordWrite : Obligations.WordWrite := by
  intro s addr v
  refine ⟨fun hboth => ⟨s.mem.writeWord addr v, writeWord_valid s v hboth, ?_⟩, writeWord_firstInvalid s v,
    fun hsecond => ⟨memAfterFailedWord s.mem addr v s.cyc, writeWord_secondInvalid s v hsecond⟩⟩
  exact ⟨s.mem.read_writeWord_low addr v, s.mem.read_writeWord_high addr v, memReadWord_writeWord s.mem v hboth,
    fun _ hlow hhigh => s.mem.read_writeWord_other v hlow hhigh⟩

end Sys2Proof.Machine
end

section
/-! The addresses and the flag update of the loads (40_engine_primitives.md R75, R76, R78). -/

namespace Sys2Proof.Machine

/-- The zero-page address is the operand byte as a number (R75). -/
@[simp] theorem eaZp_toNat (b1 : Byte) : (eaZp b1).toNat = b1.toNat :=
  BitVec.toNat_setWidth_of_le (by decide)

/-- The indexed zero-page address is a zero-page address, of the 8-bit sum (R76). -/
theorem eaZpx_eq_eaZp_add (b1 x : Byte) : eaZpx b1 x = eaZp (b1 + x) := rfl

/-- The sum of the indexed mode wraps within the zero page (R76). -/
@[simp] theorem eaZpx_toNat (b1 x : Byte) : (eaZpx b1 x).toNat = (b1.toNat + x.toNat) % 256 := by
  rw [eaZpx_eq_eaZp_add, eaZp_toNat, BitVec.toNat_add]

/-- No zero-page address leaves the zero page (R75). -/
theorem eaZp_le (b1 : Byte) : (eaZp b1).toNat ≤ 0x00FF := by
  rw [eaZp_toNat]
  exact Nat.le_of_lt_succ b1.isLt

/-- Settles O36: the indexed address is the plain one of the sum, so one bound serves both. -/
theorem zeroPageAddresses : Obligations.ZeroPageAddresses := by
  intro b1 x
  exact ⟨eaZp_toNat b1, eaZp_le b1, eaZpx_toNat b1 x, eaZp_le (b1 + x)⟩

/-- Bit 7 of zero is clear, so no value is both zero and negative (R78). -/
theorem negativeOf_of_zeroOf {v : Byte} (h : zeroOf v = true) : negativeOf v = false := by
  have hzero : v = 0x00 := of_decide_eq_true h
  rw [hzero]
  rfl

/-- Settles O38: the update is R78's by definition, and a zero value has a clear bit 7. -/
theorem setZNWritesTwoFlags : Obligations.SetZNWritesTwoFlags := by
  intro s v
  refine ⟨rfl, ?_⟩
  rintro ⟨hZ, hN⟩
  have hclear : negativeOf v = false := negativeOf_of_zeroOf hZ
  rw [State.setZN_flagN, hclear] at hN
  cases hN

end Sys2Proof.Machine
end

section
/-! The three LDA forms (41_load.md): each is one load into `A` at its own cost, and the step that meets its opcode runs it. -/

namespace Sys2Proof.Machine

/-- The state an LDA of `v` leaves at a cost of `cost` cycles: the two instruction bytes passed, `v` in `A`, `Z` and `N`
of `v` (R85 to R88). -/
def State.loaded (s : State) (v : Byte) (cost : Int) : State :=
  (((s.setPC (s.pc + 2)).spend cost).setA v).setZN v

/-- The same state, field by field, as the statements write it. -/
theorem State.loaded_eq (s : State) (v : Byte) (cost : Int) :
    s.loaded v cost = { s with
      a := v, flagZ := decide (v = 0x00), flagN := v.getLsbD 7, pc := s.pc + 2, cyc := s.cyc - cost } := rfl

/-! ### The whole step of each form -/

/-- Cycles spent one after another add up. -/
theorem State.spend_spend (s : State) (m n : Int) : (s.spend m).spend n = s.spend (m + n) := by
  simp only [State.spend, Int.sub_sub]

theorem exec_ldaIm (b1 : Byte) (s : State) : exec (.ldaIm b1) s = .next (s.loaded b1 2) := by
  simp [exec, execLdaIm, passOpcode_eq, passByte_eq, loadA_eq, State.pastByte_pastByte, State.loaded]

theorem exec_ldaZp (b1 : Byte) (s : State) :
    exec (.ldaZp b1) s = .next (s.loaded (s.mem.read b1.toNat) 3) := by
  simp [exec, execLdaZp, passOpcode_eq, passByte_eq, readByte_eq, loadA_eq, State.pastByte_pastByte,
    State.spend_spend, State.loaded]

theorem exec_ldaZpx (b1 : Byte) (s : State) :
    exec (.ldaZpx b1) s = .next (s.loaded (s.mem.read ((b1.toNat + s.x.toNat) % 256)) 4) := by
  simp [exec, execLdaZpx, passOpcode_eq, passByte_eq, internalCycle, readByte_eq, loadA_eq, State.pastByte_pastByte,
    State.spend_spend, State.loaded]

/-! ### The step that meets an opcode in memory -/

/-- A Running state whose opcode byte is `op` runs what `op` decodes to with the two bytes after it (R66, R67). -/
theorem step_of_opcode {s : State} {op : Byte} (hrun : s.running = true) (hop : s.mem.read s.pc.toNat = op) :
    step s = exec (decodeOp op (s.mem.read (s.pc + 1).toNat) (s.mem.read (s.pc + 2).toNat)) s := by
  have hcode : codeByte s 0 = op := by rw [codeByte, BitVec.add_zero, hop]
  rw [step, if_pos hrun, fetchInstr, hcode]
  rfl

/-- Settles O10: `exec` loads the operand byte, and 0xA9 at PC decodes to this form. -/
theorem ldaImmediate : Obligations.LdaImmediate := by
  refine ⟨fun b1 s => ⟨rfl, ?_⟩, fun s hrun hop => ?_⟩
  · rw [exec_ldaIm, State.loaded_eq]
  · rw [step_of_opcode hrun hop, decodeOp_ldaIm, exec_ldaIm, State.loaded_eq]

/-- Settles O11: `exec` loads the byte at the zero-page address, and 0xA5 at PC decodes to this form. -/
theorem ldaZeroPage : Obligations.LdaZeroPage := by
  refine ⟨fun b1 s => ⟨rfl, ?_⟩, fun s b1 hrun hop hoperand => ?_⟩
  · rw [exec_ldaZp, State.loaded_eq]
  · rw [step_of_opcode hrun hop, hoperand, decodeOp_ldaZp, exec_ldaZp, State.loaded_eq]

/-- Settles O12: `exec` loads the byte at the wrapped sum of operand and X, and 0xB5 at PC decodes to this form. -/
theorem ldaZeroPageX : Obligations.LdaZeroPageX := by
  refine ⟨fun b1 s => ⟨rfl, ?_⟩, fun s b1 hrun hop hoperand => ?_⟩
  · rw [exec_ldaZpx, State.loaded_eq]
  · rw [step_of_opcode hrun hop, hoperand, decodeOp_ldaZpx, exec_ldaZpx, State.loaded_eq]

/-- The three forms differ only in the value they load and in what they cost (R88). -/
theorem exec_lda_loaded {i : Instr} {b1 : Byte} {cost : Int}
    (h : (i = .ldaIm b1 ∧ cost = 2) ∨ (i = .ldaZp b1 ∧ cost = 3) ∨ (i = .ldaZpx b1 ∧ cost = 4)) (s : State) :
    ∃ v, exec i s = .next (s.loaded v cost) := by
  rcases h with ⟨rfl, rfl⟩ | ⟨rfl, rfl⟩ | ⟨rfl, rfl⟩
  · exact ⟨_, exec_ldaIm b1 s⟩
  · exact ⟨_, exec_ldaZp b1 s⟩
  · exact ⟨_, exec_ldaZpx b1 s⟩

/-- Settles O13: every form leaves `State.loaded` of some value, whose fields the laws of its updates give. -/
theorem ldaFlagLaw : Obligations.LdaFlagLaw := by
  intro i b1 k s hform
  obtain ⟨v, hexec⟩ := exec_lda_loaded hform s
  refine ⟨s.loaded v k, hexec, rfl, rfl, ?_⟩
  simp [State.loaded]

end Sys2Proof.Machine
end

section
/-! The Unhandled opcodes (43_unhandled.md): one whole step of theirs, and the loop that goes on after it. -/

namespace Sys2Proof.Machine

/-- A byte that is none of the four opcodes of R55 is Unhandled. -/
theorem decodeClass_unhandled {op : Byte} (hjsr : op ≠ 0x20) (hzp : op ≠ 0xA5) (him : op ≠ 0xA9) (hzpx : op ≠ 0xB5) :
    decodeClass op = .unhandled := by
  rw [decodeClass, if_neg him, if_neg hzp, if_neg hzpx, if_neg hjsr]

/-- The whole step of every Unhandled constructor: its opcode byte passed and reported, nothing else (R95). -/
theorem exec_unhandled {i : Instr} (h : decodeClass i.opcode = .unhandled) (s : State) :
    exec i s = .next (s.pastByte.report (.unhandledOpcode i.opcode s.pc)) := by
  have hshared : exec i s = unhandledOpcode i.opcode s := by
    cases i with
    | ldaIm | ldaZp | ldaZpx | jsr => cases h
    | _ => rfl
  rw [hshared, unhandledOpcode_eq]

/-- The step of a Running state that meets an Unhandled byte (R67, R95). -/
theorem step_unhandled {s : State} {op : Byte} (hrun : s.running = true) (hop : s.mem.read s.pc.toNat = op)
    (h : decodeClass op = .unhandled) : step s = .next (s.pastByte.report (.unhandledOpcode op s.pc)) := by
  rw [step_of_opcode hrun hop, exec_unhandled (by rwa [decodeOp_opcode]), decodeOp_opcode]

/-- After a step of one cycle the loop's budget of steps is exactly what the next state asks for (R65). -/
theorem execute_of_oneCycle_step {s t : State} (hrun : s.running = true) (hstep : step s = .next t)
    (hcyc : t.cyc = s.cyc - 1) : execute s = execute t := by
  obtain ⟨-, hpos⟩ := s.running_iff.mp hrun
  have hsteps : s.cyc.toNat = t.cyc.toNat + 1 := by omega
  rw [execute, hsteps, runLoop_succ hrun hstep, execute]

/-- Settles O23: the step reports and takes one cycle, so the latch stays clear and the loop goes on from its state. -/
theorem unhandledContinues : Obligations.UnhandledContinues := by
  intro s hrun hjsr hzp him hzpx
  have hstep := step_unhandled hrun rfl (decodeClass_unhandled hjsr hzp him hzpx)
  obtain ⟨hclear, -⟩ := s.running_iff.mp hrun
  refine ⟨_, hstep, hclear, ?_, fun hpos => ?_, execute_of_oneCycle_step hrun hstep rfl⟩
  · simp [State.pastByte]
  · exact (State.running_iff _).mpr ⟨hclear, hpos⟩

end Sys2Proof.Machine
end

section
/-! The byte primitives of the engine (40_engine_primitives.md section 2): what one fetch and one read answer and leave. -/

namespace Sys2Proof.Machine

/-- The state a fetch leaves, field by field, as the statements write it (R70; decision D3; log 11). -/
theorem State.pastByte_eq (s : State) : s.pastByte = { s with pc := s.pc + 1, cyc := s.cyc - 1 } := rfl

/-- Settles O34: `PC` and every resolved address are 16-bit words, so both accesses are in memory (R102). -/
theorem fetchAndReadPrimitives : Obligations.FetchAndReadPrimitives := by
  refine ⟨fun s => ?_, fun addr s => ?_⟩
  · rw [fetchByte_eq, State.pastByte_eq]
  · rw [readByte_eq, State.spend]

end Sys2Proof.Machine
end

section
/-! The encoder and the decoder (30_encoding.md): what the decoder answers for each format, and the two round trips. -/

namespace Sys2Proof

/-- The encoding of an Unhandled instruction is its opcode byte alone (R95). -/
theorem encode_of_unhandled {i : Instr} (h : decodeClass i.opcode = .unhandled) : encode i = [i.opcode] := by
  rw [encode, operands_of_unhandled h]

/-- An Unhandled opcode decodes to its own constructor, whatever bytes follow it (R59, R95). -/
theorem decodeOp_of_unhandled {i : Instr} (h : decodeClass i.opcode = .unhandled) (b1 b2 : Byte) :
    decodeOp i.opcode b1 b2 = i := by
  cases i with
  | ldaIm | ldaZp | ldaZpx | jsr => cases h
  | _ => rfl

/-- The operand bytes an Unhandled opcode is decoded with do not matter (R95). -/
theorem decodeOp_unhandled_operands {op : Byte} (h : decodeClass op = .unhandled) (b1 b2 c1 c2 : Byte) :
    decodeOp op b1 b2 = decodeOp op c1 c2 := by
  have hop : (decodeOp op b1 b2).opcode = op := decodeOp_opcode op b1 b2
  have hself := decodeOp_of_unhandled (i := decodeOp op b1 b2) (by rwa [hop]) c1 c2
  rw [hop] at hself
  exact hself.symm

/-! ### What the decoder answers, by format (R50, R55) -/

theorem decode_op {op : Byte} (h : (decodeClass op).format = .op) (rest : List Byte) :
    decode (op :: rest) = .ok (decodeOp op 0 0, rest) := by
  simp only [decode, h]

theorem decode_opB {op : Byte} (h : (decodeClass op).format = .opB) (b1 : Byte) (rest : List Byte) :
    decode (op :: b1 :: rest) = .ok (decodeOp op b1 0, rest) := by
  simp only [decode, h]

theorem decode_opW {op : Byte} (h : (decodeClass op).format = .opW) (b1 b2 : Byte) (rest : List Byte) :
    decode (op :: b1 :: b2 :: rest) = .ok (decodeOp op b1 b2, rest) := by
  simp only [decode, h]

/-- A list shorter than its opcode's length is refused as truncated (R50, R59). -/
theorem decode_truncated {op : Byte} {rest : List Byte} (h : (op :: rest).length < opLength op) :
    decode (op :: rest) = .error (.truncated op) := by
  cases hformat : (decodeClass op).format <;>
    simp only [opLength, hformat, Format.operandBytes, List.length_cons] at h
  case op => omega
  case opB =>
    match rest, h with
    | [], _ => simp only [decode, hformat]
  case opW =>
    match rest, h with
    | [], _ | [_], _ => simp only [decode, hformat]

/-- A list as long as its opcode's length begins with an instruction (R50, R59). -/
theorem decode_ok_of_length {op : Byte} {rest : List Byte} (h : opLength op ≤ (op :: rest).length) :
    ∃ i rest', decode (op :: rest) = .ok (i, rest') := by
  cases hformat : (decodeClass op).format <;>
    simp only [opLength, hformat, Format.operandBytes, List.length_cons] at h
  case op => exact ⟨_, _, decode_op hformat rest⟩
  case opB =>
    match rest, h with
    | b1 :: rest, _ => exact ⟨_, _, decode_opB hformat b1 rest⟩
  case opW =>
    match rest, h with
    | b1 :: b2 :: rest, _ => exact ⟨_, _, decode_opW hformat b1 b2 rest⟩

/-- An Unhandled opcode has no operand bytes to its format (R95). -/
theorem format_of_unhandled {op : Byte} (h : decodeClass op = .unhandled) : (decodeClass op).format = .op := by
  rw [h]
  rfl

/-! ### The two round trips -/

/-- Settles O1: each of the four instructions with operands, and the Unhandled ones, whose encoding is the opcode alone. -/
theorem decodeOfEncode : Obligations.DecodeOfEncode := by
  intro i rest
  rcases i.cases_class with ⟨b1, rfl⟩ | ⟨b1, rfl⟩ | ⟨b1, rfl⟩ | ⟨t, rfl⟩ | hunhandled
  · exact decode_opB (op := 0xA9) rfl b1 rest
  · exact decode_opB (op := 0xA5) rfl b1 rest
  · exact decode_opB (op := 0xB5) rfl b1 rest
  · have h := decode_opW (op := 0x20) rfl (lowByte t) (highByte t) rest
    rwa [decodeOp_jsr, wordOf_high_low] at h
  · rw [encode_of_unhandled hunhandled, List.singleton_append, decode_op (format_of_unhandled hunhandled),
      decodeOp_of_unhandled hunhandled]

/-- Everything a successful decode can have read: an instruction's encoding at the front of the list. -/
theorem encode_of_decode {bytes : List Byte} {i : Instr} {rest : List Byte} (h : decode bytes = .ok (i, rest)) :
    bytes = encode i ++ rest := by
  match bytes with
  | [] => cases h
  | op :: tail =>
    rcases decodeClass_cases op with ⟨rfl, -⟩ | ⟨rfl, -⟩ | ⟨rfl, -⟩ | ⟨rfl, -⟩ | ⟨-, hunhandled⟩
    · match tail, h with
      | b1 :: rest, rfl => rfl
    · match tail, h with
      | b1 :: rest, rfl => rfl
    · match tail, h with
      | b1 :: rest, rfl => rfl
    · match tail, h with
      | b1 :: b2 :: rest, rfl =>
        have hoperands : (decodeOp 0x20 b1 b2).operands = [lowByte (wordOf b2 b1), highByte (wordOf b2 b1)] := rfl
        rw [encode, decodeOp_opcode, hoperands, lowByte_wordOf, highByte_wordOf]
        rfl
    · rw [decode_op (format_of_unhandled hunhandled)] at h
      cases h
      rw [encode_of_unhandled (by rwa [decodeOp_opcode]), decodeOp_opcode, List.singleton_append]

/-- Settles O2: the converse of the round trip, for every list the decoder reads from. -/
theorem encodeOfDecode : Obligations.EncodeOfDecode := fun _ _ _ => encode_of_decode

/-- Settles O4: the list is shorter than the opcode's length or not, and the two answers exclude each other. -/
theorem truncatedBytesRefused : Obligations.TruncatedBytesRefused := by
  refine ⟨rfl, fun op rest => ⟨⟨fun herr => ?_, decode_truncated⟩, ⟨?_, decode_ok_of_length⟩⟩⟩
  · by_contra hlong
    obtain ⟨i, rest', hok⟩ := decode_ok_of_length (Nat.le_of_not_lt hlong)
    rw [hok] at herr
    cases herr
  · rintro ⟨i, rest', hok⟩
    by_contra hshort
    rw [decode_truncated (Nat.lt_of_not_le hshort)] at hok
    cases hok

/-- Settles O3: the four rows by evaluation, the last one by the decoder's default. -/
theorem decoderTable : Obligations.DecoderTable := by
  refine ⟨fun b1 b2 => ⟨decodeOp_ldaIm b1 b2, decodeOp_ldaZp b1 b2, decodeOp_ldaZpx b1 b2, decodeOp_jsr b1 b2⟩,
    ⟨rfl, rfl, rfl, rfl⟩, ⟨rfl, rfl, rfl, rfl⟩, ⟨rfl, rfl, rfl, rfl⟩, ⟨rfl, rfl, rfl, rfl⟩, ?_⟩
  intro op b1 b2 him hzp hzpx hjsr
  have hclass : decodeClass op = .unhandled := Machine.decodeClass_unhandled hjsr hzp him hzpx
  exact ⟨hclass, decodeOp_opcode op b1 b2, by rw [opLength, hclass]; rfl, rfl, rfl⟩

/-- Settles O5: the six lists are encodings, so the round trip reads them. -/
theorem sampleWordsDecode : Obligations.SampleWordsDecode :=
  ⟨decodeOfEncode (.ldaIm 0x84) [], decodeOfEncode (.ldaZp 0x10) [], decodeOfEncode (.ldaZpx 0xF0) [],
    decodeOfEncode (.jsr 0x1234) [], decodeOfEncode .unhandledAD [0x20, 0x42, 0x42], decodeOfEncode (.jsr 0x4242) []⟩

end Sys2Proof
end

section
/-! The whole step of JSR (42_control_transfer.md): what it leaves, and what is read back of the word it pushes. -/

namespace Sys2Proof.Machine

/-- The stack address is the stack pointer zero-extended (R77; decision D5; log 8). -/
@[simp] theorem stackAddr_eq (sp : Byte) : stackAddr sp = sp.toNat := by simp [stackAddr, Config.stackBase]

/-- Settles O37: the two bytes of a push end at 0x0100 at the latest. -/
theorem pushCannotFail : Obligations.PushCannotFail := fun sp =>
  ⟨stackAddr_eq sp, fun v s => ⟨s.mem.writeWord (stackAddr sp) v, writeWord_valid s v (stackAddr_succ_lt sp)⟩⟩

/-- The value JSR pushes is the address of its last byte (R90; decision D7; log 11). -/
theorem returnAddr_add_three (pc : Word) : returnAddr (pc + 3#16) = pc + 2#16 := by
  rw [returnAddr]
  bv_omega

/-- The state a JSR to `t` leaves: the address of its last byte pushed, the stack pointer one up, `PC` at the target, six
cycles spent (R90; decisions D4 to D7). -/
def State.called (s : State) (t : Word) : State :=
  (((s.setMem (s.mem.writeWord (stackAddr s.sp) (s.pc + 2))).spend 6).setSP (s.sp + 1)).setPC t

@[simp] theorem State.called_mem (s : State) (t : Word) :
    (s.called t).mem = s.mem.writeWord (stackAddr s.sp) (s.pc + 2) := rfl
@[simp] theorem State.called_sp (s : State) (t : Word) : (s.called t).sp = s.sp + 1 := rfl
@[simp] theorem State.called_pc (s : State) (t : Word) : (s.called t).pc = t := rfl

theorem exec_jsr (t : Word) (s : State) : exec (.jsr t) s = .next (s.called t) := by
  have hpassed : s.pastByte.pastByte.pastByte = (s.setPC (s.pc + 3)).spend 3 := by
    simp [State.pastByte, State.setPC, State.spend, BitVec.add_assoc, Int.sub_sub]
  simp only [exec, execJsr, passOpcode_eq, passWord_eq, callTo_eq, Access.bind_ok, Access.settle_ok, hpassed]
  simp [State.called, Memory.writeWord, returnAddr_add_three, pushedSP, Config.jsrSpStep, State.setPC, State.spend,
    State.setMem, State.setSP, Int.sub_sub]

/-- Settles O16: the whole step is `State.called`, written field by field. -/
theorem jsrResult : Obligations.JsrResult := by
  intro t s
  refine ⟨rfl, ?_⟩
  rw [exec_jsr, State.called, stackAddr_eq]
  rfl

/-- The word a JSR pushes reads back whole (R33, R90). -/
theorem memReadWord_called (s : State) (t : Word) :
    memReadWord (s.called t).mem (stackAddr s.sp) = .ok (s.pc + 2) :=
  memReadWord_writeWord s.mem (s.pc + 2) (stackAddr_succ_lt s.sp)

/-- Settles O17: the laws of a word write, at the stack address. -/
theorem jsrPushReadsBack : Obligations.JsrPushReadsBack := fun t s =>
  ⟨s.called t, exec_jsr t s, s.mem.read_writeWord_low _ _, s.mem.read_writeWord_high _ _, memReadWord_called s t⟩

/-- Settles O18: `State.called` updates no other field, and a word write no other byte. -/
theorem jsrFrame : Obligations.JsrFrame := by
  intro t s u e
  rw [exec_jsr] at e
  cases e
  refine ⟨rfl, rfl, rfl, rfl, rfl, rfl, rfl, rfl, rfl, rfl, rfl, rfl, ?_⟩
  rintro a rfl addr hlow hhigh
  exact s.mem.read_writeWord_other _ hlow hhigh

/-- Settles O20: the fetch addresses are the two addresses of the push, since no stack address is near the top of memory. -/
theorem fetchSeesPushedBytes : Obligations.FetchSeesPushedBytes := by
  intro t s htarget
  have hlow : (s.called t).mem.read t.toNat = lowByte (s.pc + 2) := by
    rw [htarget, State.called_mem, Memory.read_writeWord_low]
  have hnext : (t + 1).toNat = stackAddr s.sp + 1 := by
    rw [stackAddr_eq] at htarget ⊢
    bv_omega
  have hhigh : (s.called t).mem.read (t + 1).toNat = highByte (s.pc + 2) := by
    rw [hnext, State.called_mem, Memory.read_writeWord_high]
  refine ⟨s.called t, exec_jsr t s, ⟨(s.called t).pastByte, ?_⟩, ⟨(s.called t).pastByte.pastByte, ?_⟩⟩
  · rw [fetchByte_eq, State.called_pc, hlow]
  · rw [fetchWord_eq, State.called_pc, hlow, hhigh, wordOf_high_low]

/-- Settles O19: the second push starts one address above the first, so only the first low byte survives it. -/
theorem overlappingPushes : Obligations.OverlappingPushes := by
  intro t₁ t₂ s hsp
  have hup : (s.sp + 1).toNat = s.sp.toNat + 1 := by bv_omega
  have hmem : ((s.called t₁).called t₂).mem =
      (s.mem.writeWord s.sp.toNat (s.pc + 2)).writeWord (s.sp.toNat + 1) (t₁ + 2) := by
    simp only [State.called_mem, State.called_sp, State.called_pc, stackAddr_eq, hup]
  refine ⟨_, _, exec_jsr t₁ s, exec_jsr t₂ _, ?_, ?_, ?_, ?_⟩
  · rw [hmem, Memory.read_writeWord_other _ _ (by omega) (by omega), Memory.read_writeWord_low]
  · rw [hmem, Memory.read_writeWord_low]
  · rw [hmem, Memory.read_writeWord_high]
  · rw [State.called_sp, State.called_sp, BitVec.add_assoc]
    rfl

end Sys2Proof.Machine
end

section
/-! What every step does and never does: it answers a next state, at the cost of its table row, and leaves `X`, `Y`, five
flags and the latch alone. The invariants of every run follow. -/

namespace Sys2Proof.Machine

/-! ### Every instruction answers a next state (R102) -/

/-- Every instruction completes, at the cost the opcode table gives it (R55, R56). -/
theorem exec_next (i : Instr) (s : State) : ∃ t, exec i s = .next t ∧ t.cyc = s.cyc - i.cycles := by
  rcases i.cases_class with ⟨b1, rfl⟩ | ⟨b1, rfl⟩ | ⟨b1, rfl⟩ | ⟨t, rfl⟩ | hunhandled
  · exact ⟨_, exec_ldaIm b1 s, rfl⟩
  · exact ⟨_, exec_ldaZp b1 s, rfl⟩
  · exact ⟨_, exec_ldaZpx b1 s, rfl⟩
  · exact ⟨_, exec_jsr t s, rfl⟩
  · refine ⟨_, exec_unhandled hunhandled s, ?_⟩
    rw [Instr.cycles, hunhandled]
    rfl

/-- Outside Running a step changes nothing (R112; decision D13; log 4). -/
theorem step_not_running {s : State} (h : s.running = false) : step s = .next s := by simp [step, h]

theorem step_next (s : State) : ∃ t, step s = .next t := by
  cases hrun : s.running
  · exact ⟨s, step_not_running hrun⟩
  · obtain ⟨t, e, -⟩ := exec_next (fetchInstr s) s
    exact ⟨t, by rw [step, if_pos hrun, e]⟩

/-- Settles O28: `exec_next`, and the cost column of each kind of instruction. -/
theorem cycleCostIsTheTables : Obligations.CycleCostIsTheTables := by
  refine ⟨exec_next, fun b1 => ⟨rfl, rfl, rfl⟩, fun t => rfl, fun i hjsr hzp him hzpx => ?_⟩
  rw [Instr.cycles, decodeClass_unhandled hjsr hzp him hzpx]
  rfl

/-! ### What each instruction writes, by its kind -/

/-- Settles O21: no operand bytes, and the one whole step all Unhandled constructors share. -/
theorem unhandledResult : Obligations.UnhandledResult := by
  intro i s hjsr hzp him hzpx
  have hunhandled := decodeClass_unhandled hjsr hzp him hzpx
  exact ⟨encode_of_unhandled hunhandled, exec_unhandled hunhandled s⟩

/-- Settles O22: the whole step writes `PC`, `CYC` and one event. -/
theorem unhandledFrame : Obligations.UnhandledFrame := by
  intro i s t hjsr hzp him hzpx e
  rw [exec_unhandled (decodeClass_unhandled hjsr hzp him hzpx)] at e
  cases e
  exact ⟨rfl, rfl, rfl, rfl, rfl, rfl, rfl, rfl, rfl, rfl, rfl, rfl, ⟨_, rfl⟩, fun _ => rfl⟩

/-- Settles O14: every form leaves `State.loaded` of some value. -/
theorem ldaFrame : Obligations.LdaFrame := by
  intro i b1 s t hform e
  obtain ⟨v, cost, hexec⟩ : ∃ v cost, exec i s = .next (s.loaded v cost) := by
    rcases hform with rfl | rfl | rfl
    · exact ⟨_, _, exec_ldaIm b1 s⟩
    · exact ⟨_, _, exec_ldaZp b1 s⟩
    · exact ⟨_, _, exec_ldaZpx b1 s⟩
  rw [hexec] at e
  cases e
  exact ⟨rfl, rfl, rfl, rfl, rfl, rfl, rfl, rfl, rfl, rfl, fun _ => rfl⟩

/-- Settles O15: the byte loaded stands in the zero page, where the two memories agree. -/
theorem zeroPageLoadsReadZeroPageOnly : Obligations.ZeroPageLoadsReadZeroPageOnly := by
  intro b1 s m hagree
  have hzp : m.read b1.toNat = s.mem.read b1.toNat := hagree _ (Nat.le_of_lt_succ b1.isLt)
  have hzpx : m.read ((b1.toNat + s.x.toNat) % 256) = s.mem.read ((b1.toNat + s.x.toNat) % 256) :=
    hagree _ (Nat.le_of_lt_succ (Nat.mod_lt _ (by decide)))
  exact ⟨⟨_, _, exec_ldaZp b1 s, exec_ldaZp b1 _, hzp, congrArg zeroOf hzp, congrArg negativeOf hzp⟩,
    ⟨_, _, exec_ldaZpx b1 s, exec_ldaZpx b1 _, hzpx, congrArg zeroOf hzpx, congrArg negativeOf hzpx⟩⟩

/-- Settles O24: what is no LDA form is a JSR or Unhandled. -/
theorem onlyLdaWritesAZN : Obligations.OnlyLdaWritesAZN := by
  intro i s hnotLda
  rcases i.cases_class with ⟨b1, rfl⟩ | ⟨b1, rfl⟩ | ⟨b1, rfl⟩ | ⟨t, rfl⟩ | hunhandled
  · exact absurd rfl (hnotLda b1).1
  · exact absurd rfl (hnotLda b1).2.1
  · exact absurd rfl (hnotLda b1).2.2
  · exact ⟨_, exec_jsr t s, rfl, rfl, rfl⟩
  · exact ⟨_, exec_unhandled hunhandled s, rfl, rfl, rfl⟩

/-- Settles O25: what is no JSR is an LDA form or Unhandled. -/
theorem onlyJsrWritesMemoryAndSP : Obligations.OnlyJsrWritesMemoryAndSP := by
  intro i s hnotJsr
  rcases i.cases_class with ⟨b1, rfl⟩ | ⟨b1, rfl⟩ | ⟨b1, rfl⟩ | ⟨t, rfl⟩ | hunhandled
  · exact ⟨_, exec_ldaIm b1 s, rfl, rfl⟩
  · exact ⟨_, exec_ldaZp b1 s, rfl, rfl⟩
  · exact ⟨_, exec_ldaZpx b1 s, rfl, rfl⟩
  · exact absurd rfl (hnotJsr t)
  · exact ⟨_, exec_unhandled hunhandled s, rfl, rfl⟩

/-! ### What no step writes -/

/-- The fields no step writes are in `t` what they are in `s` (R11, R15, R102). -/
structure SameUnwritten (s t : State) : Prop where
  x : t.x = s.x
  y : t.y = s.y
  flagC : t.flagC = s.flagC
  flagI : t.flagI = s.flagI
  flagD : t.flagD = s.flagD
  flagB : t.flagB = s.flagB
  flagV : t.flagV = s.flagV
  fault : t.fault = s.fault

theorem SameUnwritten.refl (s : State) : SameUnwritten s s := ⟨rfl, rfl, rfl, rfl, rfl, rfl, rfl, rfl⟩

theorem Effect.sameUnwritten {i : Instr} {s t : State} (h : Effect i s t) : SameUnwritten s t := by
  cases h with
  | load | call | unhandled => exact ⟨rfl, rfl, rfl, rfl, rfl, rfl, rfl, rfl⟩

theorem step_sameUnwritten {s t : State} (e : step s = .next t) : SameUnwritten s t := by
  rcases step_cases e with ⟨-, e⟩ | ⟨-, rfl⟩
  · exact (exec_effect e).sameUnwritten
  · exact .refl t

/-- Settles O9: a step answers by `step_next`, and the latch is one of the fields no step writes. -/
theorem stepAlwaysAnswersUnfaulted : Obligations.StepAlwaysAnswersUnfaulted := by
  intro s
  obtain ⟨t, e⟩ := step_next s
  exact ⟨t, e, (step_sameUnwritten e).fault⟩

/-- Settles O26: a step answers by `step_next`, and leaves what `SameUnwritten` lists. -/
theorem stepKeepsXYAndFiveFlags : Obligations.StepKeepsXYAndFiveFlags := by
  intro s
  obtain ⟨t, e⟩ := step_next s
  have h := step_sameUnwritten e
  exact ⟨t, e, h.x, h.y, h.flagC, h.flagI, h.flagD, h.flagB, h.flagV⟩

/-! ### The invariants of a run -/

/-- Settles O44: `Unfaulted` speaks only of fields no step writes. -/
theorem stepKeepsUnfaulted : Obligations.StepKeepsUnfaulted := by
  intro s t hs e
  have h := step_sameUnwritten e
  exact ⟨h.x.trans hs.x, h.y.trans hs.y, h.flagC.trans hs.flagC, h.flagI.trans hs.flagI, h.flagD.trans hs.flagD,
    h.flagB.trans hs.flagB, h.flagV.trans hs.flagV, h.fault.trans hs.fault⟩

/-- A word write in memory keeps the canonical form. -/
theorem Memory.wf_writeWord {m : Memory} {addr : Nat} (w : Word) (h : m.wf = true) (ha : addr + 1 < Config.maxMem) :
    (m.writeWord addr w).wf = true :=
  Memory.wf_write _ (Memory.wf_write _ h (Nat.lt_of_succ_lt ha)) ha

/-- The one instruction that writes memory does so at a stack address, inside memory. -/
theorem Effect.mem_wf {i : Instr} {s t : State} (h : Effect i s t) (hwf : s.mem.wf = true) : t.mem.wf = true := by
  cases h with
  | load | unhandled => exact hwf
  | call => exact Memory.wf_writeWord _ hwf (stackAddr_succ_lt s.sp)

theorem step_mem_wf {s t : State} (e : step s = .next t) (hwf : s.mem.wf = true) : t.mem.wf = true := by
  rcases step_cases e with ⟨-, e⟩ | ⟨-, rfl⟩
  · exact (exec_effect e).mem_wf hwf
  · exact hwf

/-- `latchValid` depends on the latch alone. -/
theorem latchValid_of_fault_eq {s t : State} (h : t.fault = s.fault) (hs : latchValid s) : latchValid t :=
  fun addr hlatched => hs addr (h ▸ hlatched)

/-- Settles O43: memory by the effect of the step, the latch by what no step writes. -/
theorem stepKeepsInv : Obligations.StepKeepsInv := fun _ _ hs e =>
  ⟨step_mem_wf e hs.memWf, latchValid_of_fault_eq (step_sameUnwritten e).fault hs.latch⟩

/-- An instruction appends at most one event (R20, R103). -/
theorem Effect.diag {i : Instr} {s t : State} (h : Effect i s t) : t.diag = s.diag ∨ ∃ e, t.diag = s.diag ++ [e] := by
  cases h with
  | load | call => exact .inl rfl
  | unhandled => exact .inr ⟨_, rfl⟩

/-- Settles O45: the trace by the effect of the step, the latch by what no step writes. -/
theorem traceGrowsAndLatchSticks : Obligations.TraceGrowsAndLatchSticks := by
  intro s t e
  have hdiag : t.diag = s.diag ∨ ∃ e, t.diag = s.diag ++ [e] := by
    rcases step_cases e with ⟨-, e⟩ | ⟨-, rfl⟩
    · exact (exec_effect e).diag
    · exact .inl rfl
  have hfault := (step_sameUnwritten e).fault
  rcases hdiag with h | ⟨event, h⟩
  · exact ⟨by simp [h], by simp [h], fun _ => hfault⟩
  · exact ⟨by simp [h], by simp [h], fun _ => hfault⟩

/-- An instruction takes one to six cycles (R17, R55). -/
theorem Effect.cyc {i : Instr} {s t : State} (h : Effect i s t) : s.cyc - 6 ≤ t.cyc ∧ t.cyc ≤ s.cyc - 1 := by
  cases h with
  | load v cost h₁ h₂ =>
    simp only [State.setZN_cyc, State.setA_cyc, State.spend_cyc, State.setPC_cyc]
    omega
  | call =>
    simp only [State.setPC_cyc, State.setSP_cyc, State.spend_cyc, State.setMem_cyc]
    omega
  | unhandled =>
    simp only [State.report_cyc, State.spend_cyc, State.setPC_cyc]
    omega

/-- Settles O29: a Running state has at least one cycle, and its step takes at most six. -/
theorem overrunIsBounded : Obligations.OverrunIsBounded := by
  intro s hrun
  obtain ⟨t, e⟩ := step_next s
  obtain ⟨hlower, hupper⟩ := (step_effect hrun e).cyc
  obtain ⟨-, hpos⟩ := s.running_iff.mp hrun
  exact ⟨t, e, hlower, hupper, by omega⟩

end Sys2Proof.Machine
end

section
/-! What a step does not read (10_state.md R11, R15, R20): `A`, `Y`, the flags and the trace. -/

namespace Sys2Proof.Machine

/-- What is written from two states into the fields `maskUnread` hides, by two runs of one instruction: `A`, `Z` and `N` are
written alike or not at all, and the same events are appended; the fields it does not hide end alike. -/
structure SameWrites (s s' t t' : State) : Prop where
  masked : maskUnread t = maskUnread t'
  azn : (t.a = t'.a ∧ t.flagZ = t'.flagZ ∧ t.flagN = t'.flagN) ∨
    ((t.a = s.a ∧ t.flagZ = s.flagZ ∧ t.flagN = s.flagN) ∧
      (t'.a = s'.a ∧ t'.flagZ = s'.flagZ ∧ t'.flagN = s'.flagN))
  events : ∃ d : List DiagEvent, t.diag = s.diag ++ d ∧ t'.diag = s'.diag ++ d

section
variable {s s' : State} (h : maskUnread s = maskUnread s')
include h

theorem SameWrites.refl : SameWrites s s' s s' :=
  ⟨h, .inr ⟨⟨rfl, rfl, rfl⟩, rfl, rfl, rfl⟩, [], (List.append_nil _).symm, (List.append_nil _).symm⟩

theorem SameWrites.loaded (v : Byte) (cost : Int) : SameWrites s s' (s.loaded v cost) (s'.loaded v cost) :=
  ⟨congrArg (fun u => maskUnread (u.loaded v cost)) h, .inl ⟨rfl, rfl, rfl⟩,
    [], (List.append_nil _).symm, (List.append_nil _).symm⟩

theorem SameWrites.called (t : Word) : SameWrites s s' (s.called t) (s'.called t) :=
  ⟨congrArg (fun u => maskUnread (u.called t)) h, .inr ⟨⟨rfl, rfl, rfl⟩, rfl, rfl, rfl⟩,
    [], (List.append_nil _).symm, (List.append_nil _).symm⟩

theorem SameWrites.reported (e : DiagEvent) : SameWrites s s' (s.pastByte.report e) (s'.pastByte.report e) :=
  ⟨congrArg (fun u => maskUnread (u.pastByte.report e)) h, .inr ⟨⟨rfl, rfl, rfl⟩, rfl, rfl, rfl⟩, [e], rfl, rfl⟩

/-- An instruction reads `PC`, `X`, `SP`, `CYC` and memory only, in which the two states agree. -/
theorem exec_sameWrites (i : Instr) :
    ∃ t t', exec i s = .next t ∧ exec i s' = .next t' ∧ SameWrites s s' t t' := by
  have hx : s.x = s'.x := (congrArg State.x h :)
  have hpc : s.pc = s'.pc := (congrArg State.pc h :)
  have hmem : s.mem = s'.mem := (congrArg State.mem h :)
  rcases i.cases_class with ⟨b1, rfl⟩ | ⟨b1, rfl⟩ | ⟨b1, rfl⟩ | ⟨t, rfl⟩ | hunhandled
  · exact ⟨_, _, exec_ldaIm b1 s, exec_ldaIm b1 s', .loaded h _ _⟩
  · exact ⟨_, _, exec_ldaZp b1 s, exec_ldaZp b1 s', hmem ▸ .loaded h _ _⟩
  · exact ⟨_, _, exec_ldaZpx b1 s, exec_ldaZpx b1 s', hmem ▸ hx ▸ .loaded h _ _⟩
  · exact ⟨_, _, exec_jsr t s, exec_jsr t s', .called h t⟩
  · exact ⟨_, _, exec_unhandled hunhandled s, exec_unhandled hunhandled s', hpc ▸ .reported h _⟩

/-- Two states that differ only in what `maskUnread` hides take the same step. -/
theorem step_sameWrites : ∃ t t', step s = .next t ∧ step s' = .next t' ∧ SameWrites s s' t t' := by
  have hrunning : s.running = s'.running := (congrArg State.running h :)
  have hfetch : fetchInstr s = fetchInstr s' := (congrArg fetchInstr h :)
  cases hrun : s.running
  · exact ⟨s, s', step_not_running hrun, step_not_running (hrunning ▸ hrun), .refl h⟩
  · rw [step, if_pos hrun, step, if_pos (hrunning ▸ hrun), ← hfetch]
    exact exec_sameWrites h (fetchInstr s)

end

/-- Settles O27: the same writes, and what no step writes, in each of the two steps. -/
theorem unreadStateDoesNotMatter : Obligations.UnreadStateDoesNotMatter := by
  intro s s' h
  obtain ⟨t, t', e, e', hwrites⟩ := step_sameWrites h
  have hs := step_sameUnwritten e
  have hs' := step_sameUnwritten e'
  exact ⟨t, t', e, e', hwrites.masked, hwrites.azn,
    ⟨hs.y, hs.flagC, hs.flagI, hs.flagD, hs.flagB, hs.flagV⟩,
    ⟨hs'.y, hs'.flagC, hs'.flagI, hs'.flagD, hs'.flagB, hs'.flagV⟩, hwrites.events⟩

end Sys2Proof.Machine
end

section
/-! The step and the decoder (40_engine_primitives.md R66, R67): the step runs what the bytes at `PC` decode to, in the
model's form and in the spec's, and runs a word placed there. -/

namespace Sys2Proof.Machine

/-- `decodeOp`, given three bytes, finds the instruction `decode` reads at their front (R50, R55). -/
theorem decodeOp_of_decode {op b1 b2 : Byte} {i : Instr} {rest : List Byte} (h : decode [op, b1, b2] = .ok (i, rest)) :
    decodeOp op b1 b2 = i := by
  rcases decodeClass_cases op with ⟨rfl, -⟩ | ⟨rfl, -⟩ | ⟨rfl, -⟩ | ⟨rfl, -⟩ | ⟨-, hunhandled⟩
  · cases h
    rfl
  · cases h
    rfl
  · cases h
    rfl
  · cases h
    rfl
  · rw [decode_op (format_of_unhandled hunhandled)] at h
    cases h
    exact decodeOp_unhandled_operands hunhandled b1 b2 0 0

/-- Settles O6: the step decodes the three bytes at `PC` with `decodeOp`. -/
theorem stepRunsDecoded : Obligations.StepRunsDecoded := by
  intro s i rest hrun hdecode
  rw [step_of_opcode hrun rfl, decodeOp_of_decode hdecode]

/-- Settles O8: neither a Halted nor a Faulted state is Running. -/
theorem stepOutsideRunningDoesNothing : Obligations.StepOutsideRunningDoesNothing := by
  intro s h
  have hrun : s.running = false := s.not_running_iff.mpr h
  have hstep := step_not_running hrun
  exact ⟨hstep, by simp only [stepReply, hstep, hrun]⟩

/-- The rule of a decoder result, run on the state past the opcode (R67). -/
theorem specStep_eq (s : State) :
    specStep s = (handler (decodeClass (s.mem.read s.pc.toNat)) s.pc (s.mem.read s.pc.toNat) s.pastByte).settle := by
  rw [specStep, fetchByte_eq, Access.bind_ok]

@[simp] theorem State.pastByte_pc (s : State) : s.pastByte.pc = s.pc + 1 := rfl
@[simp] theorem State.pastByte_mem (s : State) : s.pastByte.mem = s.mem := rfl

/-- Settles O7: the operand bytes a rule fetches are those the decoder saw, for each of the five results of the decoder. -/
theorem stepIsTheSpecsPseudocode : Obligations.StepIsTheSpecsPseudocode := by
  intro s hrun
  rw [specStep_eq]
  rcases decodeClass_cases (s.mem.read s.pc.toNat) with
    ⟨hop, hclass⟩ | ⟨hop, hclass⟩ | ⟨hop, hclass⟩ | ⟨hop, hclass⟩ | ⟨-, hclass⟩
  · rw [step_of_opcode hrun hop, decodeOp_ldaIm, hclass]
    simp [exec, execLdaIm, handler, passOpcode_eq, passByte_eq, fetchByte_eq]
  · rw [step_of_opcode hrun hop, decodeOp_ldaZp, hclass]
    simp [exec, execLdaZp, handler, passOpcode_eq, passByte_eq, fetchByte_eq]
  · rw [step_of_opcode hrun hop, decodeOp_ldaZpx, hclass]
    simp [exec, execLdaZpx, handler, passOpcode_eq, passByte_eq, fetchByte_eq]
  · rw [step_of_opcode hrun hop, decodeOp_jsr, hclass]
    simp [exec, execJsr, handler, passOpcode_eq, passWord_eq, fetchWord_eq, BitVec.add_assoc]
  · rw [step_unhandled hrun rfl hclass, hclass, handler, Access.settle_ok]

/-! ### A word placed where the step fetches (log 9) -/

@[simp] theorem State.storeCode_pc (s : State) (addr : Word) (bytes : List Byte) : (s.storeCode addr bytes).pc = s.pc := by
  induction bytes generalizing s addr with
  | nil => rfl
  | cons b bs ih => rw [State.storeCode, ih, State.setMem_pc]

@[simp] theorem State.storeCode_cyc (s : State) (addr : Word) (bytes : List Byte) :
    (s.storeCode addr bytes).cyc = s.cyc := by
  induction bytes generalizing s addr with
  | nil => rfl
  | cons b bs ih => rw [State.storeCode, ih, State.setMem_cyc]

/-- A state made to run is Running. -/
theorem State.awake_running (s : State) : s.awake.running = true := by
  rw [State.running_iff]
  refine ⟨rfl, ?_⟩
  by_cases hpos : 0 < s.cyc <;> simp [State.awake, hpos]

/-- Three bytes stored at an address are read back there and at the two addresses after it, modulo 2^16. -/
theorem State.read_storeCode_three (s : State) (addr : Word) (b0 b1 b2 : Byte) :
    (s.storeCode addr [b0, b1, b2]).mem.read addr.toNat = b0 ∧
    (s.storeCode addr [b0, b1, b2]).mem.read (addr + 1).toNat = b1 ∧
    (s.storeCode addr [b0, b1, b2]).mem.read (addr + 2).toNat = b2 := by
  have hmem : (s.storeCode addr [b0, b1, b2]).mem =
      ((s.mem.write addr.toNat b0).write (addr + 1).toNat b1).write (addr + 2).toNat b2 := by
    simp [State.storeCode, BitVec.add_assoc]
  have h01 : addr.toNat ≠ (addr + 1).toNat := by bv_omega
  have h02 : addr.toNat ≠ (addr + 2).toNat := by bv_omega
  have h12 : (addr + 1).toNat ≠ (addr + 2).toNat := by bv_omega
  rw [hmem]
  refine ⟨?_, ?_, Memory.read_write_same _ _ _⟩
  · rw [Memory.read_write_other _ _ h02, Memory.read_write_other _ _ h01, Memory.read_write_same]
  · rw [Memory.read_write_other _ _ h12, Memory.read_write_same]

/-- A decoded table word is what `decodeOp` makes of the three bytes it is laid out as. -/
theorem decodeOp_of_decodeTableWord {nbits w : Nat} {i : Instr} (h : decodeTableWord nbits w = some i) :
    decodeOp (tableByte nbits w 0) (tableByte nbits w 1) (tableByte nbits w 2) = i := by
  have hbytes : tableBytes nbits w = [tableByte nbits w 0, tableByte nbits w 1, tableByte nbits w 2] := rfl
  rw [decodeTableWord, hbytes] at h
  split at h
  · next j rest hdecode =>
    cases h
    exact decodeOp_of_decode hdecode
  · cases h

@[simp] theorem State.withFetchWord_pc (s : State) (nbits w : Nat) : (s.withFetchWord nbits w).pc = s.pc :=
  s.storeCode_pc s.pc (tableBytes nbits w)

/-- The three bytes a placed word is laid out as stand where the step fetches. -/
theorem State.read_withFetchWord (s : State) (nbits w : Nat) :
    (s.withFetchWord nbits w).mem.read s.pc.toNat = tableByte nbits w 0 ∧
    (s.withFetchWord nbits w).mem.read (s.pc + 1).toNat = tableByte nbits w 1 ∧
    (s.withFetchWord nbits w).mem.read (s.pc + 2).toNat = tableByte nbits w 2 :=
  s.read_storeCode_three s.pc (tableByte nbits w 0) (tableByte nbits w 1) (tableByte nbits w 2)

/-- Settles O42: the placed bytes are the ones the step decodes, and a Running state is left running as it was. -/
theorem placedWordRunsNext : Obligations.PlacedWordRunsNext := by
  intro s nbits w i hword
  refine ⟨?_, fun hrun => ?_, s.withFetchWord_pc nbits w⟩
  · obtain ⟨h0, h1, h2⟩ := s.read_withFetchWord nbits w
    have hrunning : (s.withFetchWord nbits w).running = true := State.awake_running _
    rw [step_of_opcode hrunning (by rw [State.withFetchWord_pc, h0]), State.withFetchWord_pc, h1, h2,
      decodeOp_of_decodeTableWord hword]
  · obtain ⟨hclear, hpos⟩ := s.running_iff.mp hrun
    simp [State.withFetchWord, State.awake, hclear, hpos]

end Sys2Proof.Machine
end

section
/-! The loop of `execute` (40_engine_primitives.md R65): it is the step repeated, it ends, and it keeps what steps keep. -/

namespace Sys2Proof.Machine

/-- What every step keeps, the loop keeps. -/
theorem runLoop_keeps {P : State → Prop} (hstep : ∀ s t, P s → step s = .next t → P t) {n : Nat} {s t : State} (hs : P s)
    (e : runLoop n s = .next t) : P t := by
  induction n generalizing s with
  | zero =>
    cases e
    exact hs
  | succ n ih =>
    cases hrun : s.running
    · rw [runLoop_not_running hrun] at e
      cases e
      exact hs
    · obtain ⟨u, hu⟩ := step_next s
      rw [runLoop_succ hrun hu] at e
      exact ih (hstep s u hs hu) e

/-- A step of a Running state makes the rest of the loop shorter (R65). -/
theorem step_cyc_le {n : Nat} {s t : State} (hrun : s.running = true) (e : step s = .next t) (hn : s.cyc ≤ (n + 1 : Nat)) :
    t.cyc ≤ n := by
  obtain ⟨-, hupper⟩ := (step_effect hrun e).cyc
  omega

/-- With no cycle left no state is Running (R18). -/
theorem not_running_of_cyc_nonpos {s : State} (h : s.cyc ≤ 0) : s.running = false := s.not_running_iff.mpr (.inr h)

/-- `CYC` steps are enough: the loop ends outside Running (R65). -/
theorem runLoop_ends {n : Nat} {s : State} (hn : s.cyc ≤ n) : ∃ t, runLoop n s = .next t ∧ t.running = false := by
  induction n generalizing s with
  | zero => exact ⟨s, rfl, not_running_of_cyc_nonpos hn⟩
  | succ n ih =>
    cases hrun : s.running
    · exact ⟨s, runLoop_not_running hrun, hrun⟩
    · obtain ⟨u, hu⟩ := step_next s
      rw [runLoop_succ hrun hu]
      exact ih (step_cyc_le hrun hu hn)

/-- More steps than `CYC` change nothing (R65). -/
theorem runLoop_eq_of_cyc_le {m n : Nat} {s : State} (hm : s.cyc ≤ m) (hn : s.cyc ≤ n) : runLoop m s = runLoop n s := by
  induction m generalizing n s with
  | zero =>
    have hrun := not_running_of_cyc_nonpos hm
    rw [runLoop_not_running hrun, runLoop_not_running hrun]
  | succ m ih =>
    cases hrun : s.running
    · rw [runLoop_not_running hrun, runLoop_not_running hrun]
    · obtain ⟨-, hpos⟩ := s.running_iff.mp hrun
      obtain ⟨u, hu⟩ := step_next s
      obtain ⟨k, rfl⟩ : ∃ k, n = k + 1 := Nat.exists_eq_succ_of_ne_zero (by omega)
      rw [runLoop_succ hrun hu, runLoop_succ hrun hu]
      exact ih (step_cyc_le hrun hu hm) (step_cyc_le hrun hu hn)

/-- `execute` is the loop with any number of steps from `CYC` on (R65). -/
theorem execute_eq_runLoop {n : Nat} {s : State} (hn : s.cyc ≤ n) : execute s = runLoop n s :=
  runLoop_eq_of_cyc_le s.cyc.self_le_toNat hn

/-- The host's run of the core is the loop: its steps outside Running change nothing (R112; decision D13). -/
theorem core_run_eq_runLoop (n : Nat) (s : State) : core.run n s = runLoop n s := by
  induction n generalizing s with
  | zero => rfl
  | succ n ih =>
    have hrec {t : State} (e : step s = .next t) : core.run (n + 1) s = core.run n t := by
      simp only [Host.Core.run, show core.step s = .next t from e]
    cases hrun : s.running
    · rw [hrec (step_not_running hrun), ih, runLoop_not_running hrun, runLoop_not_running hrun]
    · obtain ⟨t, e⟩ := step_next s
      rw [hrec e, ih, runLoop_succ hrun e]

/-- Settles O47: the loop is the host's run, and one step of it is unrolled with a budget of steps to spare. -/
theorem executeIsRepeatedStep : Obligations.ExecuteIsRepeatedStep := by
  refine ⟨fun s n hn => ?_, fun s t hrun e => ?_⟩
  · rw [execute_eq_runLoop hn, core_run_eq_runLoop]
  · have hn : s.cyc ≤ (s.cyc.toNat + 1 : Nat) := by omega
    rw [execute_eq_runLoop hn, runLoop_succ hrun e, execute_eq_runLoop (step_cyc_le hrun e hn)]

/-- A state that could still run has overrun its budget by five cycles at most, and so has the next. -/
theorem step_cyc_ge {s t : State} (hs : -5 ≤ s.cyc) (e : step s = .next t) : -5 ≤ t.cyc := by
  rcases step_cases e with ⟨hrun, e⟩ | ⟨-, rfl⟩
  · obtain ⟨hlower, -⟩ := (exec_effect e).cyc
    obtain ⟨-, hpos⟩ := s.running_iff.mp hrun
    omega
  · exact hs

/-- Settles O46: the loop ends by `runLoop_ends`, and `runLoop_keeps` carries every step invariant to its end. -/
theorem executeEnds : Obligations.ExecuteEnds := by
  intro s
  obtain ⟨t, e, hend⟩ := runLoop_ends s.cyc.self_le_toNat
  refine ⟨t, e, hend, fun hrun => ?_, fun hclear hpos => ?_, fun hs => runLoop_keeps stepKeepsInv hs e,
    fun hs => runLoop_keeps stepKeepsUnfaulted hs e⟩
  · rw [runLoop_not_running hrun] at e
    cases e
    rfl
  · have hfault : t.fault = none :=
      runLoop_keeps (P := fun u => u.fault = none) (fun _ _ hu e => (step_sameUnwritten e).fault.trans hu) hclear e
    have hlower : -5 ≤ t.cyc :=
      runLoop_keeps (P := fun u => -5 ≤ u.cyc) (fun _ _ hu e => step_cyc_ge hu e) (by omega) e
    have hupper : t.cyc ≤ 0 := (t.not_running_iff.mp hend).resolve_left (not_not_intro hfault)
    exact ⟨by simp [EndedWell, State.runState, hfault, Int.not_lt.mpr hupper], hfault, hlower, hupper⟩

/-! ### Running off the program (70_reset_and_hazards.md R133) -/

/-- The state `n` Unhandled steps over bytes 0x00 leave. -/
def State.ranOff (s : State) (n : Nat) : State :=
  { s with
    pc := s.pc + BitVec.ofNat 16 n, cyc := s.cyc - n,
    diag := s.diag ++ (List.range n).map fun k => .unhandledOpcode 0x00 (s.pc + BitVec.ofNat 16 k) }

/-- One such step, and then `n` more. -/
theorem State.ranOff_succ (s : State) (n : Nat) :
    (s.pastByte.report (.unhandledOpcode 0x00 s.pc)).ranOff n = s.ranOff (n + 1) := by
  have hpc (k : Nat) : s.pc + 1#16 + BitVec.ofNat 16 k = s.pc + BitVec.ofNat 16 (k + 1) := by
    rw [BitVec.add_assoc, BitVec.add_comm 1#16, BitVec.ofNat_add]
  have hcyc : s.cyc - 1 - n = s.cyc - (n + 1 : Nat) := by omega
  simp [State.ranOff, State.report, State.pastByte_eq, hpc, hcyc, List.range_succ_eq_map, Function.comp_def]

/-- In memory that is all zero the loop makes one Unhandled step for each cycle. -/
theorem runLoop_zeroMemory {n : Nat} {s : State} (hclear : s.fault = none) (hcyc : s.cyc = n)
    (hzero : ∀ addr, s.mem.read addr = 0x00) : runLoop n s = .next (s.ranOff n) := by
  induction n generalizing s with
  | zero => simp [runLoop, State.ranOff]
  | succ n ih =>
    have hrun : s.running = true := s.running_iff.mpr ⟨hclear, by omega⟩
    have hstep := step_unhandled hrun (hzero _) rfl
    have hleft : s.pastByte.cyc = n := by rw [State.pastByte_eq, hcyc, Nat.cast_succ, add_sub_cancel_right]
    rw [runLoop_succ hrun hstep, ← State.ranOff_succ]
    exact ih hclear hleft hzero

/-- Settles O48: `State.ranOff` for as many steps as there are cycles. -/
theorem emptyMemoryRunsOutTheBudget : Obligations.EmptyMemoryRunsOutTheBudget := by
  intro s hrun hzero
  obtain ⟨hclear, hpos⟩ := s.running_iff.mp hrun
  have hcyc : s.cyc = s.cyc.toNat := by omega
  have hspent : s.cyc - s.cyc.toNat = 0 := by omega
  rw [execute, runLoop_zeroMemory hclear hcyc hzero, State.ranOff, hspent]

end Sys2Proof.Machine
end

section
/-! Memory as a whole (20_memory.md; log 2): the canonical form is unique, and what a host load writes. -/

namespace Sys2Proof.Machine

/-! ### The canonical form determines the list -/

theorem Memory.wfFrom_cons_iff {lo k : Nat} {b : Byte} {m : Memory} :
    Memory.wfFrom lo ((k, b) :: m) = true ↔
      lo ≤ k ∧ k < Config.maxMem ∧ b ≠ Config.unlisted ∧ m.wfFrom (k + 1) = true := by
  simp [Memory.wfFrom, and_assoc]

/-- A list whose entries begin at `lo` lists no address below. -/
theorem Memory.read_below {m : Memory} {lo addr : Nat} (h : m.wfFrom lo = true) (haddr : addr < lo) :
    m.read addr = Config.unlisted := by
  induction m generalizing lo with
  | nil => rfl
  | cons c m ih =>
    obtain ⟨k, b⟩ := c
    obtain ⟨hlo, -, -, htail⟩ := Memory.wfFrom_cons_iff.mp h
    rw [Memory.read, if_neg (by omega), ih htail (by omega)]

/-- A list that reads like one with an entry at `k` begins at `k` or before. -/
theorem Memory.le_of_read_cons {m m' : Memory} {lo k : Nat} {b : Byte} (hb : b ≠ Config.unlisted)
    (hread : ∀ addr, Memory.read ((k, b) :: m) addr = m'.read addr) (h' : m'.wfFrom lo = true) : lo ≤ k := by
  by_contra hlt
  have hk := hread k
  rw [Memory.read_below h' (Nat.lt_of_not_le hlt), Memory.read, if_pos rfl] at hk
  exact hb hk

/-- Lists that read alike begin alike: each head is at an address the other list does not begin after. -/
theorem Memory.eq_of_read_eq {m m' : Memory} {lo lo' : Nat} (h : m.wfFrom lo = true) (h' : m'.wfFrom lo' = true)
    (hread : ∀ addr, m.read addr = m'.read addr) : m = m' := by
  induction m generalizing m' lo lo' with
  | nil =>
    match m', h' with
    | [], _ => rfl
    | (k, b) :: m', h' =>
      obtain ⟨-, -, hb, -⟩ := Memory.wfFrom_cons_iff.mp h'
      have hle : k + 1 ≤ k := Memory.le_of_read_cons hb (fun addr => (hread addr).symm) rfl
      omega
  | cons c m ih =>
    obtain ⟨k, b⟩ := c
    obtain ⟨-, hk, hb, htail⟩ := Memory.wfFrom_cons_iff.mp h
    match m', h' with
    | [], _ =>
      have hle : k + 1 ≤ k := Memory.le_of_read_cons hb hread rfl
      omega
    | (k', b') :: m', h' =>
      obtain ⟨-, hk', hb', htail'⟩ := Memory.wfFrom_cons_iff.mp h'
      have hle : k' ≤ k := Memory.le_of_read_cons hb hread (Memory.wfFrom_cons_iff.mpr ⟨le_rfl, hk', hb', htail'⟩)
      have hge : k ≤ k' :=
        Memory.le_of_read_cons hb' (fun addr => (hread addr).symm) (Memory.wfFrom_cons_iff.mpr ⟨le_rfl, hk, hb, htail⟩)
      obtain rfl : k = k' := Nat.le_antisymm hge hle
      have hbyte : b = b' := by simpa [Memory.read] using hread k
      have hrest : m = m' := by
        refine ih htail htail' fun addr => ?_
        by_cases haddr : addr = k
        · rw [haddr, Memory.read_below htail k.lt_succ_self, Memory.read_below htail' k.lt_succ_self]
        · simpa [Memory.read, Ne.symm haddr] using hread addr
      rw [hbyte, hrest]

/-- Settles O39: both lists begin at 0 or above, and canonical lists that read alike are one list. -/
theorem canonicalMemoryIsUnique : Obligations.CanonicalMemoryIsUnique := fun _ _ => Memory.eq_of_read_eq

/-! ### Host loads (60_exceptions.md R113) -/

/-- The memory a list of byte writes at `addr`, `addr + 1`, … leaves. -/
def Memory.writeBytes (m : Memory) (addr : Nat) : List Byte → Memory
  | [] => m
  | b :: bs => (m.write addr b).writeBytes (addr + 1) bs

theorem Memory.read_writeBytes_outside {bytes : List Byte} {m : Memory} {addr other : Nat}
    (h : other < addr ∨ addr + bytes.length ≤ other) : (m.writeBytes addr bytes).read other = m.read other := by
  induction bytes generalizing m addr with
  | nil => rfl
  | cons b bs ih =>
    rw [List.length_cons] at h
    rw [Memory.writeBytes, ih (by omega), Memory.read_write_other m b (by omega)]

theorem Memory.read_writeBytes_inside {bytes : List Byte} {m : Memory} {addr k : Nat} (h : k < bytes.length) :
    (m.writeBytes addr bytes).read (addr + k) = bytes[k] := by
  induction bytes generalizing m addr k with
  | nil => cases h
  | cons b bs ih =>
    match k, h with
    | 0, _ => exact (Memory.read_writeBytes_outside (.inl addr.lt_succ_self)).trans (Memory.read_write_same m addr b)
    | k + 1, h =>
      rw [Memory.writeBytes, ← Nat.add_assoc, Nat.add_right_comm, ih (Nat.lt_of_succ_lt_succ h)]
      rfl

theorem memWriteBytes_eq {bytes : List Byte} {m : Memory} {addr : Nat} (h : addr + bytes.length ≤ Config.maxMem) :
    memWriteBytes m addr bytes = .ok (m.writeBytes addr bytes) := by
  induction bytes generalizing m addr with
  | nil => rfl
  | cons b bs ih =>
    rw [List.length_cons] at h
    simp only [memWriteBytes, memWrite_eq m b (show addr < Config.maxMem by omega)]
    exact ih (by omega)

/-- Writes that run out of memory fail at the first address outside it. -/
theorem memWriteBytes_outOfRange {bytes : List Byte} {m : Memory} {addr : Nat} (hne : bytes ≠ [])
    (h : Config.maxMem < addr + bytes.length) :
    memWriteBytes m addr bytes = .error (.outOfRange (max addr Config.maxMem)) := by
  induction bytes generalizing m addr with
  | nil => exact absurd rfl hne
  | cons b bs ih =>
    rw [List.length_cons] at h
    by_cases hvalid : addr < Config.maxMem
    · have hrest : bs ≠ [] := by
        rintro rfl
        rw [List.length_nil] at h
        omega
      simp only [memWriteBytes, memWrite_eq m b hvalid]
      rw [ih hrest (by omega), max_eq_right hvalid, max_eq_right hvalid.le]
    · have hout : Config.maxMem ≤ addr := Nat.le_of_not_lt hvalid
      simp only [memWriteBytes, memWrite_invalid m b hout, max_eq_left hout]

/-- Settles O49: the byte writes of the load, and the canonical form they keep. -/
theorem loadWritesItsBytes : Obligations.LoadWritesItsBytes := by
  intro s addr bytes
  refine ⟨fun hfits => ⟨s.mem.writeBytes addr bytes, ?_, fun k hk => Memory.read_writeBytes_inside hk,
    fun other hother => Memory.read_writeBytes_outside hother⟩, fun hne hlong => ?_, fun t e => ?_⟩
  · simp only [hostLoad, memWriteBytes_eq (m := s.mem) (show addr + bytes.length ≤ Config.maxMem from hfits)]
    rfl
  · simp only [hostLoad, memWriteBytes_outOfRange (m := s.mem) hne (show Config.maxMem < _ from hlong)]
    rfl
  · obtain ⟨m, hwritten, rfl⟩ := hostLoad_next e
    exact ⟨fun hs => ⟨memWriteBytes_wf hs.memWf hwritten, hs.latch⟩,
      fun hs => ⟨hs.x, hs.y, hs.flagC, hs.flagI, hs.flagD, hs.flagB, hs.flagV, hs.fault⟩⟩

end Sys2Proof.Machine
end

section
/-! The remaining accesses, reset, the session before it, and the run state (10_state.md, 60_exceptions.md). -/

namespace Sys2Proof.Machine

/-- Settles O35: two byte fetches, the second at `PC + 1` modulo 2^16. -/
theorem fetchWordIsLittleEndian : Obligations.FetchWordIsLittleEndian := by
  intro s
  rw [fetchWord_eq, State.pastByte_pastByte]
  rfl

/-- A failed word write leaves memory as it was, or with the low byte written (U3; log 5). -/
theorem memAfterFailedWord_cases (m : Memory) {addr : Nat} (w : Word) (cyc : Int) (h : addr < Config.maxMem) :
    memAfterFailedWord m addr w cyc = m ∨ memAfterFailedWord m addr w cyc = m.write addr (lowByte w) := by
  simp only [memAfterFailedWord, memWrite_eq m _ h]
  split
  · exact .inr rfl
  · exact .inl rfl

/-- Settles O33: whether or not the low byte has landed, no other address is written. -/
theorem failedWordWriteLeavesLowByteOpen : Obligations.FailedWordWriteLeavesLowByteOpen := by
  intro s v
  refine ⟨_, writeWord_secondInvalid s v rfl, ?_⟩
  rcases memAfterFailedWord_cases s.mem (addr := 65535) v s.cyc (by decide) with hmem | hmem
  · rw [hmem]
    exact ⟨.inl rfl, fun _ _ => rfl⟩
  · rw [hmem]
    exact ⟨.inr (Memory.read_write_same _ _ _), fun _ hother => Memory.read_write_other _ _ hother⟩

/-! ### The run state (R18) -/

theorem State.runState_faulted {s : State} {f : Fault} (h : s.fault = some f) : s.runState = .faulted f := by
  simp only [State.runState, h]

theorem State.runState_unfaulted {s : State} (h : s.fault = none) :
    s.runState = if 0 < s.cyc then .running else .halted := by
  simp only [State.runState, h]

/-- Settles O52: with the latch clear, the sign of `CYC` decides. -/
theorem runStateIsAFunction : Obligations.RunStateIsAFunction := by
  intro s
  refine ⟨fun f => State.runState_faulted, fun hclear => ?_⟩
  rw [State.runState_unfaulted hclear]
  by_cases hpos : 0 < s.cyc
  · simp [hpos]
  · simp [hpos, Int.not_lt.mp hpos]

/-- Settles O51: the bind of a failure is the failure, and a latched state is Faulted, hence not Running. -/
theorem outOfRangeEndsTheStep : Obligations.OutOfRangeEndsTheStep := by
  intro f s
  have hrun : (s.latchFault f).running = false := (State.not_running_iff _).mpr (.inl (by simp))
  exact ⟨fun α β g => Access.bind_raised f s g, Access.settle_raised f s, State.runState_faulted rfl,
    step_not_running hrun⟩

/-! ### Reset (R24) and the session before it (R25) -/

/-- Settles O40: each field by definition, the run state by the sign of the budget. -/
theorem resetValues : Obligations.ResetValues := by
  intro budget
  have hstate : (State.resetWith budget).runState = if 0 < budget then .running else .halted :=
    State.runState_unfaulted rfl
  refine ⟨rfl, rfl, rfl, rfl, rfl, rfl, rfl, rfl, rfl, rfl, rfl, rfl, fun _ => rfl, rfl, rfl, rfl, ?_, hstate, rfl⟩
  rw [hstate]
  by_cases hpos : 0 < budget <;> simp [hpos]

/-- Settles O41: memory is the empty list, and no fault is latched. -/
theorem resetMeetsInvariants : Obligations.ResetMeetsInvariants := by
  have hinv (budget : Int) : Inv (State.resetWith budget) := ⟨State.reset_mem_wf budget, nofun⟩
  have hunfaulted (budget : Int) : Unfaulted (State.resetWith budget) := ⟨rfl, rfl, rfl, rfl, rfl, rfl, rfl, rfl⟩
  exact ⟨fun budget => ⟨hinv budget, hunfaulted budget⟩, hinv _, hunfaulted _⟩

/-- Settles O50: each request but reset meets the refusal. -/
theorem sessionNeedsReset : Obligations.SessionNeedsReset := by
  refine ⟨fun r hreset => ?_, fun session budget => rfl⟩
  cases r with
  | reset budget => exact absurd rfl (hreset budget)
  | load | execute | step => rfl

end Sys2Proof.Machine
end
